-- ==== Sys2Proof/Word.lean ====
section
/-! DEFINITION. The byte type of the Wumpus core, and what a word is (00_scope.md R8, R12).

A word is a signed integer, and its Lean type is `Int` (log entry 1): the spec states every rule on mathematical integers and then
reduces the result with `wrap` (`Sys2Proof.Machine.wrap`) to the launch parameter `WORD_BITS`. That every word of a run lies in
`[-2^(WORD_BITS-1), 2^(WORD_BITS-1))` is a clause of the invariant in Safety.lean. -/

namespace Sys2Proof

/-- A byte of one of the two streams (20_memory.md R81). -/
abbrev Byte := BitVec 8

end Sys2Proof
end

