-- ==== Sys2Proof/Geometry.lean ====
section
/-! DEFINITION. Coordinates, the six directions and the eleven rotation names: plain types, no behaviour. -/

namespace Sys2Proof

/-- A coordinate (00_scope.md R15, 40_direction_algebra.md R140): `x` grows to the East, `y` to the South. A candidate of a
move may be out of bounds, so both parts are signed (R9; log entry 23). -/
structure Coord where
  x : Int
  y : Int
deriving DecidableEq, Repr, Inhabited

/-- The six directions, in the order of their codes 0 to 5 (10_state.md R34). -/
inductive Dir where
  | ne | e | se | sw | w | nw
deriving DecidableEq, Repr, Inhabited

/-- The eleven named rotations of the icosahedron (41_ico_engine.md R185; eleven and not ten: 90_conflicts.md C1). -/
inductive Rotation where
  | edgeNw | edgeNe | edgeS | edgeNwN | edgeNeSe | edgeSSw
  | cornerN | cornerSe | cornerSw | face | flip
deriving DecidableEq, Repr, Inhabited

/-- The cursor mode (10_state.md R38). -/
inductive CursorMode where
  | none | get | set
deriving DecidableEq, Repr

/-- The input pushback slot (10_state.md R44). -/
inductive Pushback where
  | empty
  | byte (b : Byte)
  | eos
deriving DecidableEq, Repr

/-- What an input read answers (48_io.md R380): a byte of the stream or its end. -/
inductive InItem where
  | byte (b : Byte)
  | eos
deriving DecidableEq, Repr

end Sys2Proof
end

