-- ==== Sys2Proof/Syntax.lean ====
section
/-! DEFINITION. The instruction set: one constructor for each mnemonic of the opcode table (30_encoding.md R110). The table's ten
DIGIT rows are the ten values of `digit`'s field (R106). -/

namespace Sys2Proof

/-- An instruction: the meaning of one grid cell (R100). `digit` is the only one with a field (R106, R107). -/
inductive Instr where
  -- Control flow (43_control_flow.md)
  /-- MIRROR_SW_NE, R240. -/
  | mirrorSwNe
  /-- MIRROR_NW_SE, R241. -/
  | mirrorNwSe
  /-- MIRROR_W_E, R242. -/
  | mirrorWE
  /-- MIRROR_N_S, R243. -/
  | mirrorNS
  /-- STRAFE, R244. -/
  | strafe
  /-- SKIP, R245. -/
  | skip
  /-- SKIP_Z, R246. -/
  | skipZ
  /-- ITERATE, R247. -/
  | iterate
  /-- JUMP, R248. -/
  | jump
  /-- TURN_L, R249. -/
  | turnL
  /-- TURN_R, R250. -/
  | turnR
  /-- TURN_C, R251. -/
  | turnC
  -- Arithmetic and logic (44_arithmetic.md)
  /-- PUSH0, R271. -/
  | push0
  /-- DIGIT, R272. -/
  | digit (d : Nat)
  /-- INC, R273. -/
  | inc
  /-- DEC, R274. -/
  | dec
  /-- NOT, R275. -/
  | not
  /-- NEG, R276. -/
  | neg
  /-- ADD, R277. -/
  | add
  /-- SUB, R278. -/
  | sub
  /-- MUL, R279. -/
  | mul
  /-- DIV, R280. -/
  | div
  /-- MOD, R281. -/
  | mod
  /-- AND, R282. -/
  | and
  /-- OR, R283. -/
  | or
  /-- XOR, R284. -/
  | xor
  /-- BNOT, R285. -/
  | bnot
  -- Stack (45_stack.md)
  /-- DISCARD, R300. -/
  | discard
  /-- DUP, R301. -/
  | dup
  /-- SWAP, R302. -/
  | swap
  /-- DEPTH, R303. -/
  | depth
  /-- REVERSE, R304. -/
  | reverse
  /-- ROTL, R305. -/
  | rotl
  /-- ROTR, R306. -/
  | rotr
  -- Icosahedron rotations (46_ico_ops.md)
  /-- ROT_EDGE_NW, R321. -/
  | rotEdgeNw
  /-- ROT_EDGE_NE, R322. -/
  | rotEdgeNe
  /-- ROT_EDGE_S, R323. -/
  | rotEdgeS
  /-- ROT_EDGE_NW_N, R324. -/
  | rotEdgeNwN
  /-- ROT_EDGE_NE_SE, R325. -/
  | rotEdgeNeSe
  /-- ROT_EDGE_S_SW, R326. -/
  | rotEdgeSSw
  /-- ROT_CORNER_N, R327. -/
  | rotCornerN
  /-- ROT_CORNER_SE, R328. -/
  | rotCornerSe
  /-- ROT_CORNER_SW, R329. -/
  | rotCornerSw
  /-- ROT_FACE, R330. -/
  | rotFace
  /-- ROT_FLIP, R331. -/
  | rotFlip
  /-- ROLL, R332. -/
  | roll
  /-- ROT_COND, R333. -/
  | rotCond
  /-- ROT_RAND, R334. -/
  | rotRand
  /-- PUSH_FACE, R335. -/
  | pushFace
  -- Icosahedron data (46_ico_ops.md)
  /-- STORE, R336. -/
  | store
  /-- LOAD, R337. -/
  | load
  -- Cursor (46_ico_ops.md)
  /-- CURSOR_GET, R338. -/
  | cursorGet
  /-- CURSOR_SET, R339. -/
  | cursorSet
  /-- CURSOR_END, R340. -/
  | cursorEnd
  /-- ICO_MOVE_W, R343. -/
  | icoMoveW
  /-- ICO_MOVE_E, R344. -/
  | icoMoveE
  /-- ICO_MOVE_NW, R345. -/
  | icoMoveNw
  /-- ICO_MOVE_NE, R346. -/
  | icoMoveNe
  /-- ICO_MOVE_SW, R347. -/
  | icoMoveSw
  /-- ICO_MOVE_SE, R348. -/
  | icoMoveSe
  -- Self-modifying grid operator (47_grid_selfmod.md)
  /-- ROTATE_CELLS, R362. -/
  | rotateCells
  -- Input and output (48_io.md)
  /-- READ_BYTE, R382. -/
  | readByte
  /-- WRITE_BYTE, R383. -/
  | writeByte
  /-- READ_INT, R384. -/
  | readInt
  /-- PRINT_INT, R385. -/
  | printInt
  /-- WRITE_NL, R386. -/
  | writeNl
  -- Miscellaneous (49_misc.md)
  /-- STRING_TOGGLE, R410. -/
  | stringToggle
  /-- TERMINATE, R411. -/
  | terminate
  /-- NOP, R412. -/
  | nop
  /-- DEBUG, R413. -/
  | debug
deriving DecidableEq, Repr

end Sys2Proof
end

