-- ==== Sys2Proof/Config.lean ====
section
/-! DEFINITION. The launch parameters of 00_scope.md R10 as plain data, and the values the spec leaves open as constants without a body. -/

namespace Sys2Proof

/-- A permutation table on the positions 0..19 (41_ico_engine.md R184). -/
abbrev PermTable := Vector (Fin 20) 20

/-- `ROT_TABLE` (R185): one table for each rotation, in the order of `Rotation`. -/
abbrev RotTable := Vector PermTable 11

/-- `STRAFE[d][p]` (40_direction_algebra.md R153): for each direction, in the order of the codes, the displacement from an
upward cell and from a downward cell. -/
abbrev StrafeTable := Vector (Coord × Coord) 6

/-- `ICO_MOVE[d][p]` (46_ico_ops.md R341): for each direction, in the order of the codes, the rotation applied when the cursor
departs from an upward cell and from a downward cell (log entry 21). -/
abbrev IcoMoveTable := Vector (Rotation × Rotation) 6

/-- `OPCODE_MAP` (30_encoding.md R103): a partial map from bytes to opcodes. -/
abbrev OpcodeMap := List (Nat × Instr)

/-- `ISOLATED_CELL_POLICY` (42_tick_and_move.md R223). -/
inductive IsolatedPolicy where
  | stay | fault
deriving DecidableEq, Repr

/-- The table of R341, the default of `ICO_MOVE` (its SW and SE rows are the spec's own: 90_conflicts.md C4). -/
def IcoMoveTable.default : IcoMoveTable :=
  #v[(.edgeNe, .edgeS),     -- NE
     (.edgeNe, .edgeNw),    -- E
     (.edgeS, .edgeNw),     -- SE
     (.edgeS, .edgeNe),     -- SW
     (.edgeNw, .edgeNe),    -- W
     (.edgeNw, .edgeS)]     -- NW

/-- The parameters of the step (R10), latched at reset and fixed for the run (70_reset_and_hazards.md R476). `MAX_TICKS` and
`DEBUG_LEVEL` are architectural state (10_state.md R30, R49) and stand in `State`. -/
structure Params where
  /-- `WORD_BITS` (R8) -/
  wordBits : Nat
  /-- `STACK_MAX` (10_state.md R35); `none` is the unbounded stack of 60_exceptions.md R434 -/
  stackMax : Option Nat
  /-- `GRID_W_MAX` (R9, R10); `none` is unbounded (92_eei_decisions.md D4) -/
  gridWMax : Option Nat
  /-- `GRID_H_MAX` -/
  gridHMax : Option Nat
  opcodeMap : OpcodeMap
  rotTable : RotTable
  strafe : StrafeTable
  icoMove : IcoMoveTable
  isolated : IsolatedPolicy
  /-- `INIT_FACES` (10_state.md R36) -/
  initFaces : Vector Int 20
deriving DecidableEq, Repr

/-- The machine's own `OPCODE_MAP`, which the spec leaves open (91_not_in_source.md N1). Free value, log entry 3. -/
opaque Config.openOpcodeMap : OpcodeMap

/-- The machine's own `ROT_TABLE`, which the spec leaves open (N2). Free value, log entry 4. -/
opaque Config.openRotTable : RotTable

/-- The machine's own `STRAFE`, which the spec leaves open (N3). Free value, log entry 5. -/
opaque Config.openStrafe : StrafeTable

/-- The answer of the RNG port to the k-th request made after the listed draws are used up (60_exceptions.md R457).
Free value, log entry 6. -/
opaque Config.freeDraw : Nat → Nat

end Sys2Proof
end

