-- ==== Sys2Proof/Machine/Memory.lean ====
section
/-! DEFINITION. The store behind the grid: a sparse list of cells in one canonical form (20_memory.md R70 to R74). -/

namespace Sys2Proof.Machine

/-- The cells of the grid. A cell is one word at a coordinate (R70: no storage of the core is byte-addressed), so an entry is a coordinate
and a word. An unlisted coordinate reads as `unlistedCell`. -/
abbrev Memory := List (Coord × Int)

/-- What an unlisted cell holds: 0, the value the loader pads with (10_state.md R32, 30_encoding.md R114); log entry 20. -/
def unlistedCell : Int := 0

/-- Row-major order of coordinates: the order of the entries. -/
abbrev coordBefore (a b : Coord) : Prop := a.y < b.y ∨ (a.y = b.y ∧ a.x < b.x)

/-- The word at a coordinate. -/
def memRead (c : Coord) : Memory → Int
  | [] => unlistedCell
  | (d, w) :: m => if c = d then w else memRead c m

/-- The store with one cell replaced; writing `unlistedCell` removes the entry. -/
def memWrite (c : Coord) (v : Int) : Memory → Memory
  | [] => if v = unlistedCell then [] else [(c, v)]
  | (d, w) :: m =>
    if c = d then (if v = unlistedCell then m else (c, v) :: m)
    else if coordBefore c d then (if v = unlistedCell then (d, w) :: m else (c, v) :: (d, w) :: m)
    else (d, w) :: memWrite c v m

/-- Coordinates strictly rising. -/
def memSorted : Memory → Bool
  | [] => true
  | [_] => true
  | a :: b :: m => decide (coordBefore a.1 b.1) && memSorted (b :: m)

/-- The canonical form: coordinates strictly rising, no entry equal to what an unlisted cell reads as, every entry inside the
`gw` by `gh` grid. -/
def Memory.wf (gw gh : Nat) (m : Memory) : Bool :=
  memSorted m
    && m.all (fun e => decide (e.2 ≠ unlistedCell))
    && m.all (fun e => decide (0 ≤ e.1.x ∧ e.1.x < gw ∧ 0 ≤ e.1.y ∧ e.1.y < gh))

end Sys2Proof.Machine
end

