-- ==== Sys2Proof/Machine/Arith.lean ====
section
/-! DEFINITION. Word arithmetic: reduction to a word, floor division and modulo, the bitwise operations (00_scope.md R12, R13;
44_arithmetic.md R270). `n` is `WORD_BITS` throughout. -/

namespace Sys2Proof.Machine

/-- `wrap(v)` (R12): the word congruent to `v` modulo `2^n` in `[-2^(n-1), 2^(n-1))`. -/
def wrap (n : Nat) (v : Int) : Int := Int.bmod v (2 ^ n)

/-- `MIN` (R12). -/
def minWord (n : Nat) : Int := -(2 ^ (n - 1) : Int)

/-- `MAX` (R12). -/
def maxWord (n : Nat) : Int := 2 ^ (n - 1) - 1

/-- A value that a register of `n` bits holds (R8, R12). -/
abbrev InRange (n : Nat) (v : Int) : Prop := minWord n ≤ v ∧ v ≤ maxWord n

/-- `fdiv(b, a)` (R13): rounds toward negative infinity. Called with `a ≠ 0` only. -/
def fdiv (b a : Int) : Int := Int.fdiv b a

/-- `fmod(b, a)` (R13): 0 or of the sign of `a`. Called with `a ≠ 0` only. -/
def fmod (b a : Int) : Int := Int.fmod b a

/-- `b & a` on the two's-complement words (R282). -/
def wordAnd (n : Nat) (b a : Int) : Int := (BitVec.ofInt n b &&& BitVec.ofInt n a).toInt

/-- `b | a` (R283). -/
def wordOr (n : Nat) (b a : Int) : Int := (BitVec.ofInt n b ||| BitVec.ofInt n a).toInt

/-- `b ^ a` (R284). -/
def wordXor (n : Nat) (b a : Int) : Int := (BitVec.ofInt n b ^^^ BitVec.ofInt n a).toInt

/-- `~v` (R285). -/
def wordNot (n : Nat) (v : Int) : Int := (~~~ BitVec.ofInt n v).toInt

/-- The ASCII digits of a natural number, most significant first, no leading zero (48_io.md R387). -/
def digitBytes (k : Nat) : List Byte := (Nat.toDigits 10 k).map fun c => BitVec.ofNat 8 c.toNat

/-- `Decimal(v)` (R387): `'-'` before a negative number, then the digits of its magnitude. -/
def decimal (v : Int) : List Byte :=
  if v < 0 then 0x2D#8 :: digitBytes v.natAbs else digitBytes v.natAbs

end Sys2Proof.Machine
end

