-- ==== Sys2Proof/Machine/Direction.lean ====
section
/-! DEFINITION. The MOVE unit's tables (40_direction_algebra.md): turns, mirrors, the one-cell step, the boundary reflection, the
strafe; and the codes of the enumerations (10_state.md R34, R38). -/

namespace Sys2Proof.Machine

/-- The code of a direction (10_state.md R34), below 6. -/
def dirIndex : Dir → Fin 6
  | .ne => 0 | .e => 1 | .se => 2 | .sw => 3 | .w => 4 | .nw => 5

/-- The place of a rotation's table in `ROT_TABLE` (R185). -/
def rotationIndex : Rotation → Fin 11
  | .edgeNw => 0 | .edgeNe => 1 | .edgeS => 2 | .edgeNwN => 3 | .edgeNeSe => 4 | .edgeSSw => 5
  | .cornerN => 6 | .cornerSe => 7 | .cornerSw => 8 | .face => 9 | .flip => 10

/-- Coordinates add componentwise (00_scope.md R15). -/
def coordAdd (a b : Coord) : Coord := ⟨a.x + b.x, a.y + b.y⟩

/-- `is_upward(c)` (R141), with the floor modulo, so that negative coordinates are covered. -/
def isUpward (c : Coord) : Bool := fmod (c.x + c.y) 2 == 0

/-- `right(d)` (R143). -/
def turnRight : Dir → Dir
  | .ne => .e | .e => .se | .se => .sw | .sw => .w | .w => .nw | .nw => .ne

/-- `left(d)` (R144). -/
def turnLeft : Dir → Dir
  | .ne => .nw | .e => .ne | .se => .e | .sw => .se | .w => .sw | .nw => .w

/-- `reverse(d)` (R145). -/
def reverseDir : Dir → Dir
  | .ne => .sw | .e => .w | .se => .nw | .sw => .ne | .w => .e | .nw => .se

/-- `reflect_sw_ne(d)` (R146). -/
def reflectSwNe : Dir → Dir
  | .ne => .ne | .e => .nw | .se => .w | .sw => .sw | .w => .se | .nw => .e

/-- `reflect_nw_se(d)` (R147). -/
def reflectNwSe : Dir → Dir
  | .ne => .w | .e => .sw | .se => .se | .sw => .e | .w => .ne | .nw => .nw

/-- `reflect_w_e(d)` (R148). -/
def reflectWE : Dir → Dir
  | .ne => .se | .e => .e | .se => .ne | .sw => .nw | .w => .w | .nw => .sw

/-- `reflect_n_s(d)` (R149). -/
def reflectNS : Dir → Dir
  | .ne => .nw | .e => .w | .se => .sw | .sw => .se | .w => .e | .nw => .ne

/-- `STEP[d][p]` (R150); the Boolean is `true` for an upward cell. -/
def stepVector : Dir → Bool → Coord
  | .ne, true => ⟨1, 0⟩  | .ne, false => ⟨0, -1⟩
  | .e,  true => ⟨1, 0⟩  | .e,  false => ⟨1, 0⟩
  | .se, true => ⟨0, 1⟩  | .se, false => ⟨1, 0⟩
  | .sw, true => ⟨0, 1⟩  | .sw, false => ⟨-1, 0⟩
  | .w,  true => ⟨-1, 0⟩ | .w,  false => ⟨-1, 0⟩
  | .nw, true => ⟨-1, 0⟩ | .nw, false => ⟨0, -1⟩

/-- `step(d, c)` (R150). -/
def stepFrom (d : Dir) (c : Coord) : Coord := coordAdd c (stepVector d (isUpward c))

/-- `reflect_boundary(d, c)` (R152) for a cell of the given parity. -/
def reflectBoundaryTable : Dir → Bool → Dir
  | .ne, true => .w  | .ne, false => .se
  | .nw, true => .e  | .nw, false => .sw
  | .w,  true => .se | .w,  false => .ne
  | .sw, true => .nw | .sw, false => .e
  | .se, true => .ne | .se, false => .w
  | .e,  true => .sw | .e,  false => .nw

/-- `reflect_boundary(d, c)` (R152). -/
def reflectBoundary (d : Dir) (c : Coord) : Dir := reflectBoundaryTable d (isUpward c)

/-- `strafe(d, c)` (R153). -/
def strafeFrom (t : StrafeTable) (d : Dir) (c : Coord) : Coord :=
  coordAdd c (if isUpward c then t[dirIndex d].1 else t[dirIndex d].2)

/-- `ICO_MOVE[d][p]` for a cursor that departs from `c` (46_ico_ops.md R341, R342). -/
def icoMoveRotation (t : IcoMoveTable) (d : Dir) (c : Coord) : Rotation :=
  if isUpward c then t[dirIndex d].1 else t[dirIndex d].2

end Sys2Proof.Machine
end

