-- ==== Sys2Proof/Machine/IcoTable.lean ====
section
/-! DEFINITION. Files of twenty entries: mapping one, applying a permutation table to one (41_ico_engine.md R184). -/

namespace Sys2Proof.Machine

/-- A vector mapped entry by entry, through its list, so that the kernel evaluates it. -/
def mapVec {α β : Type} {n : Nat} (f : α → β) (v : Vector α n) : Vector β n :=
  ⟨(v.toList.map f).toArray, by simp⟩

/-- `new[i] = idx[P[i]]` for every `i`, all read before any write (R184). -/
def permute (p : PermTable) (idx : Vector (Fin 20) 20) : Vector (Fin 20) 20 :=
  mapVec (fun i => idx[i]) p

/-- The identity on 0..19: as a table, and as the reset value of `idx` (10_state.md R37). -/
def identityPerm : PermTable :=
  #v[0, 1, 2, 3, 4, 5, 6, 7, 8, 9, 10, 11, 12, 13, 14, 15, 16, 17, 18, 19]

end Sys2Proof.Machine
end

