-- ==== Sys2Proof/WellFormed.lean ====
section
/-! DEFINITION. What an instruction and a set of launch parameters must meet (30_encoding.md R103, R106; 41_ico_engine.md R186;
40_direction_algebra.md R153). -/

namespace Sys2Proof

/-- The one check on an instruction: DIGIT's field is one decimal digit (R106). -/
def Instr.wf : Instr → Bool
  | .digit d => decide (d < 10)
  | _ => true

/-- The seventeen bytes whose opcode the spec fixes (R103). -/
def isFixedByte (b : Nat) : Bool :=
  b == 0x22 || b == 0x23 || b == 0x2B || b == 0x2D || (decide (0x30 ≤ b) && decide (b ≤ 0x39)) || b == 0x40 || b == 0x49 || b == 0x4F

/-- DIGIT is the one mnemonic outside the range of `OPCODE_MAP` (R103, constraint 3). -/
def isDigitInstr : Instr → Bool
  | .digit _ => true
  | _ => false

/-- The constraints on `OPCODE_MAP` (R103): each byte within 0x20..0x7E and not fixed, no DIGIT, one opcode for a byte. -/
def OpcodeMap.ok (m : OpcodeMap) : Bool :=
  m.all (fun e => decide (0x20 ≤ e.1) && decide (e.1 ≤ 0x7E) && !isFixedByte e.1 && !isDigitInstr e.2)
    && decide (m.map Prod.fst).Nodup

/-- The constraints on `ROT_TABLE` that the spec states (R186), and none of the readings of R187: every table is a bijection, `face`
applied three times is the identity, `flip` and the six edge rotations applied twice are. -/
def RotTable.ok (t : RotTable) : Bool :=
  t.toList.all (fun p => decide p.toList.Nodup)
    && decide (Machine.permute t[9] (Machine.permute t[9] t[9]) = Machine.identityPerm)
    && decide (Machine.permute t[10] t[10] = Machine.identityPerm)
    && decide (Machine.permute t[0] t[0] = Machine.identityPerm)
    && decide (Machine.permute t[1] t[1] = Machine.identityPerm)
    && decide (Machine.permute t[2] t[2] = Machine.identityPerm)
    && decide (Machine.permute t[3] t[3] = Machine.identityPerm)
    && decide (Machine.permute t[4] t[4] = Machine.identityPerm)
    && decide (Machine.permute t[5] t[5] = Machine.identityPerm)

/-- The constraint on one entry of `STRAFE` for a diagonal direction (R153): horizontal, and the same for both parities. -/
def strafeEntryOk (e : Coord × Coord) : Bool := decide (e.1 = e.2) && decide (e.1.y = 0)

/-- The constraints on `STRAFE` (R153): the four diagonals NE, SE, SW and NW; E and W are free. -/
def StrafeTable.ok (t : StrafeTable) : Bool :=
  strafeEntryOk t[0] && strafeEntryOk t[2] && strafeEntryOk t[3] && strafeEntryOk t[5]

/-- Launch parameters as the spec allows them. `WORD_BITS` is at least 9, so that a word holds every byte value 0..255 of a loaded
cell (R8 with 10_state.md R32; DEDUCED, log entry 2); `INIT_FACES` holds words (R36). -/
def Params.ok (p : Params) : Bool :=
  decide (9 ≤ p.wordBits) && p.opcodeMap.ok && p.rotTable.ok && p.strafe.ok
    && p.initFaces.toList.all (fun v => decide (Machine.InRange p.wordBits v))

/-- A grid of this size fits `GRID_W_MAX` and `GRID_H_MAX` (R10). -/
def Params.gridFits (p : Params) (gw gh : Nat) : Bool :=
  (match p.gridWMax with | none => true | some k => decide (gw ≤ k))
    && (match p.gridHMax with | none => true | some k => decide (gh ≤ k))

end Sys2Proof
end

