-- ==== Sys2Proof/Machine/Launch.lean ====
section
/-! DEFINITION. What reset takes from outside: the program text and its loader (70_reset_and_hazards.md R470, R474), and the launch
arguments with the spec's defaults (00_scope.md R10). -/

namespace Sys2Proof.Machine

/-- The line separator of a program text (R474). -/
def lineFeed : Byte := 0x0A#8

/-- `split text at every 0x0A` (R474); the empty text gives one empty element. -/
def splitLines : List Byte → List (List Byte)
  | [] => [[]]
  | b :: rest =>
    if b = lineFeed then [] :: splitLines rest
    else match splitLines rest with
      | l :: ls => (b :: l) :: ls
      | [] => [[b]]

/-- The lines of a program text (R474): a final line feed ends the last line; the empty text has none. -/
def textLines (text : List Byte) : List (List Byte) :=
  if text = [] then []
  else if text.getLast? = some lineFeed then (splitLines text).dropLast
  else splitLines text

/-- `GW` (R474): the length of the longest line, 0 if there is none. -/
def maxLength : List (List Byte) → Nat
  | [] => 0
  | l :: ls => max l.length (maxLength ls)

/-- The cells of one line, from column `x` of row `y` on. -/
def rowCells (y : Int) : Int → List Byte → Memory
  | _, [] => []
  | x, b :: rest => if (b.toNat : Int) = unlistedCell then rowCells y (x + 1) rest else (⟨x, y⟩, (b.toNat : Int)) :: rowCells y (x + 1) rest

/-- The cells of the lines, from row `y` on. -/
def gridCells : Int → List (List Byte) → Memory
  | _, [] => []
  | y, l :: ls => rowCells y 0 l ++ gridCells (y + 1) ls

/-- A loaded grid. -/
structure Loaded where
  gw : Nat
  gh : Nat
  cells : Memory
deriving DecidableEq, Repr

/-- `Load(text)` (R474): one cell per byte, shorter rows padded on the right with 0. -/
def loadText (text : List Byte) : Loaded :=
  { gw := maxLength (textLines text), gh := (textLines text).length, cells := gridCells 0 (textLines text) }

/-- `OPCODE_MAP` of the machine that `State.reset` launches: the open map, held to its constraints (R103). -/
def launchOpcodeMap : OpcodeMap := if Config.openOpcodeMap.ok then Config.openOpcodeMap else []

/-- `ROT_TABLE` of that machine: the open tables, held to their constraints (R186). -/
def launchRotTable : RotTable :=
  if Config.openRotTable.ok then Config.openRotTable
  else #v[identityPerm, identityPerm, identityPerm, identityPerm, identityPerm, identityPerm, identityPerm, identityPerm,
          identityPerm, identityPerm, identityPerm]

/-- `STRAFE` of that machine: the open table, held to its constraints (R153). -/
def launchStrafe : StrafeTable :=
  if Config.openStrafe.ok then Config.openStrafe
  else #v[(⟨0, 0⟩, ⟨0, 0⟩), (⟨0, 0⟩, ⟨0, 0⟩), (⟨0, 0⟩, ⟨0, 0⟩), (⟨0, 0⟩, ⟨0, 0⟩), (⟨0, 0⟩, ⟨0, 0⟩), (⟨0, 0⟩, ⟨0, 0⟩)]

/-- The parameters at their defaults (R10): `WORD_BITS` 64, the stack and the grid unbounded, `INIT_FACES` all 0, the policy
`stay`, the default `ICO_MOVE`; the three open tables free (log entries 3 to 5, 9). -/
def defaultParams : Params :=
  { wordBits := 64, stackMax := none, gridWMax := none, gridHMax := none,
    opcodeMap := launchOpcodeMap, rotTable := launchRotTable, strafe := launchStrafe,
    icoMove := IcoMoveTable.default, isolated := .stay,
    initFaces := #v[0, 0, 0, 0, 0, 0, 0, 0, 0, 0, 0, 0, 0, 0, 0, 0, 0, 0, 0, 0] }

/-- The arguments of reset (R470): the program text, the configuration, the input stream, the draws. -/
structure Launch where
  text : List Byte
  params : Params
  /-- `MAX_TICKS` (10_state.md R49), signed; negative is unbounded -/
  maxTicks : BitVec 64
  /-- `DEBUG_LEVEL` (R49) -/
  debugLevel : BitVec 8
  input : List Byte
  draws : List Nat
deriving DecidableEq, Repr

/-- The launch `State.reset` stands for (log entry 18): no program text, no input, no draws, the defaults of R10 (`MAX_TICKS` -1, `DEBUG_LEVEL` 0). -/
def defaultLaunch : Launch :=
  { text := [], params := defaultParams, maxTicks := -1#64, debugLevel := 0#8, input := [], draws := [] }

/-- A launch the spec allows: its parameters meet their constraints and its grid fits them (log entry 19). -/
def Launch.ok (l : Launch) : Bool :=
  l.params.ok && l.params.gridFits (loadText l.text).gw (loadText l.text).gh

end Sys2Proof.Machine
end

