-- ==== Sys2Proof/Decode.lean ====
section
/-! DEFINITION. The decoder of one grid cell and its encoder (30_encoding.md R100 to R106). -/

namespace Sys2Proof

/-- The fixed part of the opcode map (R103). -/
def fixedOp (b : Nat) : Option Instr :=
  if b = 0x22 then some .stringToggle
  else if b = 0x23 then some .push0
  else if b = 0x2B then some .add
  else if b = 0x2D then some .sub
  else if 0x30 ≤ b ∧ b ≤ 0x39 then some (.digit (b - 0x30))
  else if b = 0x40 then some .terminate
  else if b = 0x49 then some .readInt
  else if b = 0x4F then some .printInt
  else none

/-- `OPCODE_MAP(v)`: the entry of a byte, if it has one. -/
def mapLookup (m : OpcodeMap) (b : Nat) : Option Instr :=
  match m with
  | [] => none
  | (k, i) :: rest => if k = b then some i else mapLookup rest b

/-- `Decode(v)` (R102). Total: a value outside 0..0x7F and an unmapped byte are NOP (R104, R105), and no cell value is refused
(R112). -/
def decode (m : OpcodeMap) (v : Int) : Instr :=
  if v < 0 ∨ 0x7F < v then .nop
  else match fixedOp v.toNat with
    | some i => i
    | none =>
      if 0x20 ≤ v ∧ v ≤ 0x7E then (mapLookup m v.toNat).getD .nop
      else .nop

/-- The byte of an instruction that the spec fixes (R103). -/
def fixedByteOf : Instr → Option Nat
  | .stringToggle => some 0x22
  | .push0 => some 0x23
  | .add => some 0x2B
  | .sub => some 0x2D
  | .digit d => if d < 10 then some (0x30 + d) else none
  | .terminate => some 0x40
  | .readInt => some 0x49
  | .printInt => some 0x4F
  | _ => none

/-- The first byte that `OPCODE_MAP` assigns to an instruction. -/
def mapByteOf (m : OpcodeMap) (i : Instr) : Option Nat :=
  match m with
  | [] => none
  | (k, j) :: rest => if j = i then some k else mapByteOf rest i

/-- A cell value that holds the instruction: its fixed byte, or the byte `OPCODE_MAP` assigns to it. NOP without such a byte
is the padding value 0 (R104). Another instruction without a byte has no encoding on this machine. -/
def encode (m : OpcodeMap) (i : Instr) : Option Int :=
  match fixedByteOf i with
  | some b => some b
  | none =>
    match mapByteOf m i with
    | some b => some b
    | none => if i = .nop then some 0 else none

/-- The cell value whose bits are `w`, bit 0 the least significant, at the default `WORD_BITS` = 64 (R101). -/
def cellOfBits (w : Nat) : Int := Machine.wrap 64 w

/-- The decoder on the bits of one table row. A cell is one word (R111), so the bits above the row's are 0 and `nbits` has no
other part in it; the map is the one of `State.reset`. -/
def decodeTableWord (_nbits w : Nat) : Option Instr := some (decode Machine.launchOpcodeMap (cellOfBits w))

end Sys2Proof
end

