-- ==== Sys2Proof/Machine/State.lean ====
section
/-! DEFINITION. The state of the core (10_state.md R30), the ports as the model holds them, the reasons a step can stop, and reset. -/

namespace Sys2Proof.Machine

/-- Why a step stops without a next state. The spec's own faults are no such stop: R431 describes entering one, and the model takes
it as a next state with `run_state = FAULTED`. The two below mark primitives called outside their precondition; no state that
meets the invariant of Safety.lean reaches them (log entry 11). -/
inductive Fault where
  /-- `GridWrite(c, v)` requires `InBounds(c)` (20_memory.md R73): raised when a Set-mode cursor stands outside the grid. Safe. -/
  | gridWriteOutOfBounds
  /-- `fmod(x, GW)` and `fmod(y, GH)` require a nonzero divisor (00_scope.md R13): raised by JUMP, CURSOR_GET and CURSOR_SET on an
  empty grid, which no running core has (10_state.md R54). Safe. -/
  | emptyGridModulus
deriving DecidableEq, Repr

/-- Why an instruction has no meaning. -/
inductive Refusal where
  /-- An instruction the model does not cover; raised by no arm of `exec`. Safe. -/
  | notModelled (mnemonic : String)
deriving DecidableEq, Repr

/-- `run_state` (10_state.md R47). -/
inductive RunState where
  | idle | running | haltNormal | haltCapped | faulted
deriving DecidableEq, Repr

/-- `fault_code` (10_state.md R48, 60_exceptions.md R432); `programError` is reserved and never raised (R436). -/
inductive FaultCode where
  | none | divByZero | stackOverflow | invariant | programError | noMove
deriving DecidableEq, Repr

/-- Why the debug port strobes (60_exceptions.md R454). -/
inductive StrobeReason where
  | everyTick | request
deriving DecidableEq, Repr

/-- The debug snapshot (R455): the whole architectural state, in the encodings of 10_state.md R52, the stack bottom first. -/
structure Snapshot where
  gw : Nat
  gh : Nat
  grid : Memory
  stack : List Int
  faces : Vector Int 20
  /-- the face numbers 1..20 in net order -/
  idx : List Nat
  runState : BitVec 3
  faultCode : BitVec 4
  tick : Nat
  maxTicks : BitVec 64
  debugLevel : BitVec 8
  ip : Coord
  dir : BitVec 3
  iter : Nat
  stringMode : Bool
  strafePending : Bool
  jumpValid : Bool
  jumpTarget : Coord
  cmode : BitVec 2
  icoPos : Coord
  pushback : Pushback
deriving DecidableEq, Repr

/-- One strobe of the debug port (R454). -/
structure Strobe where
  reason : StrobeReason
  snapshot : Snapshot
deriving DecidableEq, Repr

/-- The state. From `gw` to `debugLevel` it is the architectural state of 10_state.md R30; from `params` on it is what R30 calls
parameters of the step, and the streams of the ports. -/
structure State where
  /-- `GW` (R31) -/
  gw : Nat
  /-- `GH` (R31) -/
  gh : Nat
  /-- `grid` (R32) -/
  grid : Memory
  /-- `ip` (R33) -/
  ip : Coord
  /-- `dir` (R34); an enumeration, log entry 22 -/
  dir : Dir
  /-- `stack` (R35), the top first -/
  stack : List Int
  /-- `faces` (R36) -/
  faces : Vector Int 20
  /-- `idx` (R37); the entry `k` of type `Fin 20` is the face number `k + 1` -/
  idx : Vector (Fin 20) 20
  /-- `cmode` (R38) -/
  cmode : CursorMode
  /-- `ico_pos` (R39) -/
  icoPos : Coord
  /-- `string_mode` (R40) -/
  stringMode : Bool
  /-- `strafe_pending` (R41) -/
  strafePending : Bool
  /-- `jump_valid` (R42) -/
  jumpValid : Bool
  /-- `jump_target` (R42); its reset value is the model's, log entry 8 -/
  jumpTarget : Coord
  /-- `iter` (R43) -/
  iter : Nat
  /-- `pushback` (R44) -/
  pushback : Pushback
  /-- `tick` (R45), unbounded as R45 allows; log entry 17 -/
  tick : Nat
  /-- `run_state` (R47) -/
  runState : RunState
  /-- `fault_code` (R48) -/
  faultCode : FaultCode
  /-- `MAX_TICKS` (R49) -/
  maxTicks : BitVec 64
  /-- `DEBUG_LEVEL` (R49) -/
  debugLevel : BitVec 8
  /-- the parameters of 00_scope.md R10 -/
  params : Params
  /-- what is left of `INPUT` (60_exceptions.md R452) -/
  input : List Byte
  /-- `OUTPUT` (R453), the first byte emitted first -/
  output : List Byte
  /-- what is left of the draws (R457) -/
  draws : List Nat
  /-- the strobes presented so far (R454), the first one first; log entry 16 -/
  strobes : List Strobe
  /-- the model's own counter: draws answered by `Config.freeDraw`; log entries 6, 7 -/
  freeDraws : Nat
deriving DecidableEq, Repr

/-- Reset (70_reset_and_hazards.md R470, R472): every element at its reset value, from the launch arguments. -/
def State.resetWith (l : Launch) : State :=
  { gw := (loadText l.text).gw, gh := (loadText l.text).gh, grid := (loadText l.text).cells,
    ip := ⟨0, 0⟩, dir := .e, stack := [],
    faces := l.params.initFaces, idx := identityPerm,
    cmode := .none, icoPos := ⟨0, 0⟩,
    stringMode := false, strafePending := false, jumpValid := false, jumpTarget := ⟨0, 0⟩,
    iter := 1, pushback := .empty, tick := 0, runState := .idle, faultCode := .none,
    maxTicks := l.maxTicks, debugLevel := l.debugLevel,
    params := l.params, input := l.input, output := [], draws := l.draws, strobes := [], freeDraws := 0 }

/-- The machine right after reset, with nothing loaded (log entries 8, 18). -/
def State.reset : State := State.resetWith defaultLaunch

end Sys2Proof.Machine
end

