-- ==== Sys2Proof/Machine/Ops.lean ====
section
/-! DEFINITION. The named operations over the state: the early stop of a fault, the grid, the stack, the face files, the ports and the debug
snapshot (00_scope.md R14). -/

namespace Sys2Proof.Machine

/-- Where a sequence of primitive steps stands: it goes on, it was stopped by `raise Fault` (60_exceptions.md R431), or a primitive was
called outside its precondition. -/
inductive Flow where
  | cont (s : State)
  | stop (s : State)
  | fail (f : Fault)
deriving DecidableEq, Repr

/-- The next primitive step runs only if the ones before it went on (R431: "the rest of the tick does not run"). -/
def Flow.bind (x : Flow) (f : State → Flow) : Flow :=
  match x with
  | .cont s => f s
  | .stop s => .stop s
  | .fail e => .fail e

/-- The outcome of a sequence: a raised fault is a next state, in which `run_state` is FAULTED. -/
def Flow.outcome : Flow → Host.Outcome State Fault Refusal
  | .cont s => .next s
  | .stop s => .next s
  | .fail e => .fault e

/-! ## Taking a fault -/

/-- `raise Fault(code)` (R431, R440): the code and the run state are written and nothing else; no state is saved, nothing is rolled
back (R441). There is no return from a fault: FAULTED is absorbing (R442). -/
def State.raised (code : FaultCode) (s : State) : State := { s with faultCode := code, runState := .faulted }

/-- `raise Fault(code)` as a step of a sequence. -/
def raise (code : FaultCode) (s : State) : Flow := .stop (s.raised code)

/-! ## The grid (20_memory.md R71 to R74) -/

/-- `InBounds(c)` (00_scope.md R15). -/
abbrev State.InBounds (s : State) (c : Coord) : Prop := 0 ≤ c.x ∧ c.x < s.gw ∧ 0 ≤ c.y ∧ c.y < s.gh

/-- `GridRead(c)` (R72). -/
def State.gridRead (s : State) (c : Coord) : Int := if s.InBounds c then memRead c s.grid else 0

/-- The state with one cell replaced, the value unmodified (R73). -/
def State.withCell (s : State) (c : Coord) (v : Int) : State := { s with grid := memWrite c v s.grid }

/-- `GridWrite(c, v)` (R73), whose precondition is `InBounds(c)`. -/
def gridWrite (c : Coord) (v : Int) (s : State) : Flow :=
  if s.InBounds c then .cont (s.withCell c v) else .fail .gridWriteOutOfBounds

/-! ## The stack (20_memory.md R75 to R78) -/

/-- The value `pop()` returns: the top, or 0 when the stack is empty (R76). -/
def State.top (s : State) : Int := s.stack.headD 0

/-- The state `pop()` leaves: the top removed, an empty stack unchanged (R76). -/
def State.popped (s : State) : State := { s with stack := s.stack.tail }

/-- A push at this depth overflows (R77). -/
abbrev State.Full (s : State) : Prop := s.params.stackMax = some s.stack.length

/-- The state with a word appended on top. -/
def State.pushed (v : Int) (s : State) : State := { s with stack := v :: s.stack }

/-- `push(v)` (R77): STACK_OVERFLOW at depth `STACK_MAX` (60_exceptions.md R434). -/
def push (v : Int) (s : State) : Flow := if s.Full then raise .stackOverflow s else .cont (s.pushed v)

/-- `wrap(v)` at this machine's `WORD_BITS` (00_scope.md R12). -/
def State.wrapW (s : State) (v : Int) : Int := wrap s.params.wordBits v

/-! ## The icosahedron files (20_memory.md R79, R80; 41_ico_engine.md) -/

/-- The register index `idx[0] - 1` (10_state.md R46). -/
def State.activeIndex (s : State) : Fin 20 := s.idx[0]

/-- `IcoActive()` (41_ico_engine.md R183): the active face number, in 1..20. -/
def State.activeFace (s : State) : Nat := s.activeIndex.val + 1

/-- `FaceRead(i)` (R80). -/
def State.faceRead (s : State) (i : Fin 20) : Int := s.faces[i]

/-- `FaceWrite(i, v)` (R80). -/
def State.faceWrite (i : Fin 20) (v : Int) (s : State) : State := { s with faces := s.faces.set i v }

/-- `IcoStore(v)` (R181). -/
def State.icoStore (v : Int) (s : State) : State := s.faceWrite s.activeIndex v

/-- `IcoLoad()` (R182). -/
def State.icoLoad (s : State) : Int := s.faceRead s.activeIndex

/-- The table of a rotation (R185). -/
def State.table (s : State) (r : Rotation) : PermTable := s.params.rotTable[rotationIndex r]

/-- The state after `IcoPermute(P)` (R184): all twenty entries of `idx` replaced at once, `faces` unchanged (R188). -/
def State.permuted (p : PermTable) (s : State) : State := { s with idx := permute p s.idx }

/-- `IcoPermute(ROT_TABLE[r])` (R184) with the check of 60_exceptions.md R435: INVARIANT if the new `idx` is no bijection. -/
def rotate (r : Rotation) (s : State) : Flow :=
  if (permute (s.table r) s.idx).toList.Nodup then .cont (s.permuted (s.table r)) else raise .invariant s

/-- `repeat k: IcoPermute(ROT_TABLE[r])`. -/
def rotateTimes (r : Rotation) : Nat → State → Flow
  | 0, s => .cont s
  | k + 1, s => (rotate r s).bind (rotateTimes r k)

/-- `Bridge()` (R189). -/
def bridge (s : State) : Flow :=
  match s.cmode with
  | .none => .cont s
  | .get => .cont (s.faceWrite s.activeIndex (s.gridRead s.icoPos))
  | .set => gridWrite s.icoPos s.icoLoad s

/-! ## The ports (48_io.md R380, R381; 60_exceptions.md R451 to R457) -/

/-- `InPort()` (R452): the item. -/
def State.portItem (s : State) : InItem :=
  match s.input with
  | [] => .eos
  | b :: _ => .byte b

/-- `InRead()` (R380; it always answers, log entry 15): the item it returns. The pushback slot is served first; the end of the stream is sticky. -/
def State.inItem (s : State) : InItem :=
  match s.pushback with
  | .byte b => .byte b
  | .eos => .eos
  | .empty => s.portItem

/-- `InRead()` (R380): the state it leaves. -/
def State.inRead (s : State) : State :=
  match s.pushback with
  | .empty => { s with input := s.input.tail }
  | _ => { s with pushback := .empty }

/-- `PushBack(t)` (R380). -/
def State.pushBack (t : InItem) (s : State) : State :=
  match t with
  | .byte b => { s with pushback := .byte b }
  | .eos => { s with pushback := .eos }

/-- `OutWrite(b)` (R381, R453). -/
def State.outWrite (b : Byte) (s : State) : State := { s with output := s.output ++ [b] }

/-- `OutWrite` of each byte in turn. -/
def State.outAll : List Byte → State → State
  | [], s => s
  | b :: bs, s => State.outAll bs (s.outWrite b)

/-- `Rand(k)` (R457): the draw. The listed draws are consumed in order, each taken modulo `k`; after them the answer is free
(log entry 6), in the same range. -/
def State.randItem (k : Nat) (s : State) : Nat :=
  match s.draws with
  | r :: _ => r % k
  | [] => Config.freeDraw s.freeDraws % k

/-- `Rand(k)`: the state it leaves. -/
def State.randNext (s : State) : State :=
  match s.draws with
  | _ :: rest => { s with draws := rest }
  | [] => { s with freeDraws := s.freeDraws + 1 }

/-! ## Status and debug (60_exceptions.md R454 to R456) -/

/-- The codes of `run_state` (10_state.md R47). -/
def runStateCode : RunState → BitVec 3
  | .idle => 0 | .running => 1 | .haltNormal => 2 | .haltCapped => 3 | .faulted => 4

/-- The codes of `fault_code` (60_exceptions.md R432). -/
def faultCodeCode : FaultCode → BitVec 4
  | .none => 0 | .divByZero => 1 | .stackOverflow => 2 | .invariant => 3 | .programError => 4 | .noMove => 5

/-- The codes of `cmode` (10_state.md R38). -/
def cmodeCode : CursorMode → BitVec 2
  | .none => 0 | .get => 1 | .set => 2

/-- The run result (R456): `true` when capped, `false` when halted normally, none otherwise. -/
def State.runResult (s : State) : Option Bool :=
  match s.runState with
  | .haltCapped => some true
  | .haltNormal => some false
  | _ => none

/-- The snapshot of the debug port (R455). -/
def State.snapshot (s : State) : Snapshot :=
  { gw := s.gw, gh := s.gh, grid := s.grid, stack := s.stack.reverse, faces := s.faces,
    idx := s.idx.toList.map (fun f => f.val + 1),
    runState := runStateCode s.runState, faultCode := faultCodeCode s.faultCode, tick := s.tick,
    maxTicks := s.maxTicks, debugLevel := s.debugLevel, ip := s.ip, dir := BitVec.ofNat 3 (dirIndex s.dir).val, iter := s.iter,
    stringMode := s.stringMode, strafePending := s.strafePending, jumpValid := s.jumpValid, jumpTarget := s.jumpTarget,
    cmode := cmodeCode s.cmode, icoPos := s.icoPos, pushback := s.pushback }

/-- `DebugStrobe(reason)` (R454): the snapshot is presented to the host; no architectural state changes. -/
def State.strobe (r : StrobeReason) (s : State) : State := { s with strobes := s.strobes ++ [⟨r, s.snapshot⟩] }

/-- A value of a numbered snapshot element (10_state.md R52). -/
inductive Element where
  | number (v : Int)
  | flag (b : Bool)
  | coord (c : Coord)
  | target (valid : Bool) (c : Coord)
  | slot (p : Pushback)
deriving DecidableEq, Repr

/-- The snapshot elements by their numbers 0 to 13 (R52). -/
def Snapshot.element (n : Snapshot) : Nat → Option Element
  | 0 => some (.number n.runState.toNat)
  | 1 => some (.number n.faultCode.toNat)
  | 2 => some (.number n.tick)
  | 3 => some (.number n.maxTicks.toInt)
  | 4 => some (.number n.debugLevel.toNat)
  | 5 => some (.coord n.ip)
  | 6 => some (.number n.dir.toNat)
  | 7 => some (.number n.iter)
  | 8 => some (.flag n.stringMode)
  | 9 => some (.flag n.strafePending)
  | 10 => some (.target n.jumpValid n.jumpTarget)
  | 11 => some (.number n.cmode.toNat)
  | 12 => some (.coord n.icoPos)
  | 13 => some (.slot n.pushback)
  | _ => none

end Sys2Proof.Machine
end

