-- ==== Sys2Proof/Machine/Operands.lean ====
section
/-! DEFINITION. The operand forms (30_encoding.md R107; 20_memory.md R78): one popped word, two popped words, a popped coordinate. Every pop
happens before the push (R77). -/

namespace Sys2Proof.Machine

/-- `v <- pop(); push(f v)`. -/
def unary (f : Int → Int) (s : State) : Flow := push (f s.top) s.popped

/-- `a <- pop(); b <- pop(); push(f b a)`: the top of the stack is the right operand (R78). -/
def binary (f : Int → Int → Int) (s : State) : Flow := push (f s.popped.top s.top) s.popped.popped

/-- `a <- pop(); b <- pop()`, DIV_BY_ZERO if `a` is 0, else `push(f b a)` (44_arithmetic.md R280, R281; 60_exceptions.md R433). -/
def dividing (f : Int → Int → Int) (s : State) : Flow :=
  if s.top = 0 then raise .divByZero s.popped.popped else binary f s

/-- `(fmod(x, GW), fmod(y, GH))` with `y` popped first and `x` second (43_control_flow.md R248, 46_ico_ops.md R338). -/
def State.popCoord (s : State) : Coord := ⟨fmod s.popped.top s.gw, fmod s.top s.gh⟩

/-- Pops a coordinate reduced modulo the grid size and goes on with it. The divisors are at least 1 in a running core (R248). -/
def withCoord (f : Coord → State → State) (s : State) : Flow :=
  if s.gw = 0 ∨ s.gh = 0 then .fail .emptyGridModulus else .cont (f s.popCoord s.popped.popped)

end Sys2Proof.Machine
end

