-- ==== Sys2Proof/Machine/Arithmetic.lean ====
section
/-! DEFINITION. The arithmetic and logic opcodes (44_arithmetic.md): the mathematical result reduced by `wrap` (R270). -/

namespace Sys2Proof.Machine

/-- PUSH0 (R271). -/
def execPush0 (s : State) : Host.Outcome State Fault Refusal := (push 0 s).outcome

/-- DIGIT d (R272): a negative accumulator grows in magnitude. -/
def execDigit (d : Nat) (s : State) : Host.Outcome State Fault Refusal :=
  (unary (fun acc => if acc < 0 then s.wrapW (acc * 10 - d) else s.wrapW (acc * 10 + d)) s).outcome

/-- INC (R273). -/
def execInc (s : State) : Host.Outcome State Fault Refusal := (unary (fun v => s.wrapW (v + 1)) s).outcome

/-- DEC (R274). -/
def execDec (s : State) : Host.Outcome State Fault Refusal := (unary (fun v => s.wrapW (v - 1)) s).outcome

/-- NOT (R275). -/
def execNot (s : State) : Host.Outcome State Fault Refusal := (unary (fun v => if v = 0 then 1 else 0) s).outcome

/-- NEG (R276). -/
def execNeg (s : State) : Host.Outcome State Fault Refusal := (unary (fun v => s.wrapW (-v)) s).outcome

/-- ADD (R277). -/
def execAdd (s : State) : Host.Outcome State Fault Refusal := (binary (fun b a => s.wrapW (b + a)) s).outcome

/-- SUB (R278). -/
def execSub (s : State) : Host.Outcome State Fault Refusal := (binary (fun b a => s.wrapW (b - a)) s).outcome

/-- MUL (R279). -/
def execMul (s : State) : Host.Outcome State Fault Refusal := (binary (fun b a => s.wrapW (b * a)) s).outcome

/-- DIV (R280). -/
def execDiv (s : State) : Host.Outcome State Fault Refusal := (dividing (fun b a => s.wrapW (fdiv b a)) s).outcome

/-- MOD (R281): the result is always representable, so nothing is reduced. -/
def execMod (s : State) : Host.Outcome State Fault Refusal := (dividing fmod s).outcome

/-- AND (R282). -/
def execAnd (s : State) : Host.Outcome State Fault Refusal := (binary (wordAnd s.params.wordBits) s).outcome

/-- OR (R283). -/
def execOr (s : State) : Host.Outcome State Fault Refusal := (binary (wordOr s.params.wordBits) s).outcome

/-- XOR (R284). -/
def execXor (s : State) : Host.Outcome State Fault Refusal := (binary (wordXor s.params.wordBits) s).outcome

/-- BNOT (R285). -/
def execBnot (s : State) : Host.Outcome State Fault Refusal := (unary (wordNot s.params.wordBits) s).outcome

end Sys2Proof.Machine
end

