-- ==== Sys2Proof/Machine/Flags.lean ====
section
/-! DEFINITION. The flags. The core has no condition codes (10_state.md R51); the mode and pending flags are these, and the conditional
opcodes test a word they pop. -/

namespace Sys2Proof.Machine

/-- `string_mode <- 1 - string_mode` (49_misc.md R410). -/
def State.toggleString (s : State) : State := { s with stringMode := !s.stringMode }

/-- `strafe_pending <- 1 - strafe_pending` (43_control_flow.md R244). -/
def State.toggleStrafe (s : State) : State := { s with strafePending := !s.strafePending }

/-- `iter <- k` (10_state.md R43). -/
def State.setIter (k : Nat) (s : State) : State := { s with iter := k }

/-- `jump_target <- c; jump_valid <- 1` (R248). -/
def State.setJump (c : Coord) (s : State) : State := { s with jumpTarget := c, jumpValid := true }

/-- `ico_pos <- c; cmode <- m` (46_ico_ops.md R338, R339). -/
def State.setCursor (m : CursorMode) (c : Coord) (s : State) : State := { s with icoPos := c, cmode := m }

/-- `dir <- d` (00_scope.md R14). -/
def State.setDir (d : Dir) (s : State) : State := { s with dir := d }

end Sys2Proof.Machine
end

