-- ==== Sys2Proof/Machine/Control.lean ====
section
/-! DEFINITION. The control-flow opcodes (43_control_flow.md). None writes `ip`: the move phase does. -/

namespace Sys2Proof.Machine

/-- MIRROR_SW_NE (R240). -/
def execMirrorSwNe (s : State) : Host.Outcome State Fault Refusal := .next (s.setDir (reflectSwNe s.dir))

/-- MIRROR_NW_SE (R241). -/
def execMirrorNwSe (s : State) : Host.Outcome State Fault Refusal := .next (s.setDir (reflectNwSe s.dir))

/-- MIRROR_W_E (R242). -/
def execMirrorWE (s : State) : Host.Outcome State Fault Refusal := .next (s.setDir (reflectWE s.dir))

/-- MIRROR_N_S (R243). -/
def execMirrorNS (s : State) : Host.Outcome State Fault Refusal := .next (s.setDir (reflectNS s.dir))

/-- STRAFE (R244). -/
def execStrafe (s : State) : Host.Outcome State Fault Refusal := .next s.toggleStrafe

/-- SKIP (R245). -/
def execSkip (s : State) : Host.Outcome State Fault Refusal := .next (s.setIter 0)

/-- SKIP_Z (R246). -/
def execSkipZ (s : State) : Host.Outcome State Fault Refusal :=
  .next (if s.top = 0 then s.popped.setIter 0 else s.popped)

/-- ITERATE (R247): a negative count clamps to 0. -/
def execIterate (s : State) : Host.Outcome State Fault Refusal :=
  .next (s.popped.setIter (if s.top < 0 then 0 else s.top.toNat))

/-- JUMP (R248). -/
def execJump (s : State) : Host.Outcome State Fault Refusal := (withCoord State.setJump s).outcome

/-- TURN_L (R249). -/
def execTurnL (s : State) : Host.Outcome State Fault Refusal := .next (s.setDir (turnLeft s.dir))

/-- TURN_R (R250). -/
def execTurnR (s : State) : Host.Outcome State Fault Refusal := .next (s.setDir (turnRight s.dir))

/-- TURN_C (R251). -/
def execTurnC (s : State) : Host.Outcome State Fault Refusal :=
  .next (s.popped.setDir (if s.top ≤ 0 then turnLeft s.dir else turnRight s.dir))

end Sys2Proof.Machine
end

