-- ==== Sys2Proof/Machine/Cursor.lean ====
section
/-! DEFINITION. The cursor opcodes (46_ico_ops.md R338 to R348). -/

namespace Sys2Proof.Machine

/-- `ico_pos <- c` (R342). -/
def State.setIcoPos (c : Coord) (s : State) : State := { s with icoPos := c }

/-- `IcoMove(d)` (R342): nothing in mode None or towards a cell out of bounds; else the rotation of the departing cell's parity, the
advance of the cursor, the bridge. -/
def icoMove (d : Dir) (s : State) : Flow :=
  if s.cmode = .none then .cont s
  else if s.InBounds (stepFrom d s.icoPos) then
    (rotate (icoMoveRotation s.params.icoMove d s.icoPos) s).bind fun t => bridge (t.setIcoPos (stepFrom d s.icoPos))
  else .cont s

/-- CURSOR_GET (R338): no bridge. -/
def execCursorGet (s : State) : Host.Outcome State Fault Refusal := (withCoord (State.setCursor .get) s).outcome

/-- CURSOR_SET (R339): no bridge. -/
def execCursorSet (s : State) : Host.Outcome State Fault Refusal := (withCoord (State.setCursor .set) s).outcome

/-- CURSOR_END (R340): `ico_pos` is kept. -/
def execCursorEnd (s : State) : Host.Outcome State Fault Refusal := .next { s with cmode := .none }

/-- ICO_MOVE_W (R343). -/
def execIcoMoveW (s : State) : Host.Outcome State Fault Refusal := (icoMove .w s).outcome

/-- ICO_MOVE_E (R344). -/
def execIcoMoveE (s : State) : Host.Outcome State Fault Refusal := (icoMove .e s).outcome

/-- ICO_MOVE_NW (R345). -/
def execIcoMoveNw (s : State) : Host.Outcome State Fault Refusal := (icoMove .nw s).outcome

/-- ICO_MOVE_NE (R346). -/
def execIcoMoveNe (s : State) : Host.Outcome State Fault Refusal := (icoMove .ne s).outcome

/-- ICO_MOVE_SW (R347). -/
def execIcoMoveSw (s : State) : Host.Outcome State Fault Refusal := (icoMove .sw s).outcome

/-- ICO_MOVE_SE (R348). -/
def execIcoMoveSe (s : State) : Host.Outcome State Fault Refusal := (icoMove .se s).outcome

end Sys2Proof.Machine
end

