-- ==== Sys2Proof/Machine/Ico.lean ====
section
/-! DEFINITION. The rotation and data opcodes of the icosahedron (46_ico_ops.md R320 to R337). -/

namespace Sys2Proof.Machine

/-- `ROT(r)` (R320): the permutation, then the bridge once. -/
def rot (r : Rotation) (s : State) : Flow := (rotate r s).bind bridge

/-- ROT_EDGE_NW (R321). -/
def execRotEdgeNw (s : State) : Host.Outcome State Fault Refusal := (rot .edgeNw s).outcome

/-- ROT_EDGE_NE (R322). -/
def execRotEdgeNe (s : State) : Host.Outcome State Fault Refusal := (rot .edgeNe s).outcome

/-- ROT_EDGE_S (R323). -/
def execRotEdgeS (s : State) : Host.Outcome State Fault Refusal := (rot .edgeS s).outcome

/-- ROT_EDGE_NW_N (R324). -/
def execRotEdgeNwN (s : State) : Host.Outcome State Fault Refusal := (rot .edgeNwN s).outcome

/-- ROT_EDGE_NE_SE (R325). -/
def execRotEdgeNeSe (s : State) : Host.Outcome State Fault Refusal := (rot .edgeNeSe s).outcome

/-- ROT_EDGE_S_SW (R326). -/
def execRotEdgeSSw (s : State) : Host.Outcome State Fault Refusal := (rot .edgeSSw s).outcome

/-- ROT_CORNER_N (R327). -/
def execRotCornerN (s : State) : Host.Outcome State Fault Refusal := (rot .cornerN s).outcome

/-- ROT_CORNER_SE (R328). -/
def execRotCornerSe (s : State) : Host.Outcome State Fault Refusal := (rot .cornerSe s).outcome

/-- ROT_CORNER_SW (R329). -/
def execRotCornerSw (s : State) : Host.Outcome State Fault Refusal := (rot .cornerSw s).outcome

/-- ROT_FACE (R330). -/
def execRotFace (s : State) : Host.Outcome State Fault Refusal := (rot .face s).outcome

/-- ROT_FLIP (R331). -/
def execRotFlip (s : State) : Host.Outcome State Fault Refusal := (rot .flip s).outcome

/-- `k <- Rand(n); repeat k: IcoPermute(ROT_TABLE[r])` (R332). -/
def rollPart (n : Nat) (r : Rotation) (s : State) : Flow := rotateTimes r (s.randItem n) s.randNext

/-- ROLL (R332): four draws, each followed by its rotations, and one bridge after the whole sequence. -/
def execRoll (s : State) : Host.Outcome State Fault Refusal :=
  (((((rollPart 5 .cornerN s).bind (rollPart 3 .face)).bind (rollPart 2 .edgeNwN)).bind (rollPart 2 .edgeNeSe)).bind bridge).outcome

/-- The rotation ROT_COND selects (R333). -/
def condRotation (v : Int) : Rotation := if v < 0 then .edgeNw else if v = 0 then .edgeS else .edgeNe

/-- ROT_COND (R333). -/
def execRotCond (s : State) : Host.Outcome State Fault Refusal := (rot (condRotation s.top) s.popped).outcome

/-- The rotation a draw of ROT_RAND selects (R334). -/
def randRotation : Nat → Rotation
  | 0 => .edgeNw
  | 1 => .edgeNe
  | _ => .edgeS

/-- ROT_RAND (R334). -/
def execRotRand (s : State) : Host.Outcome State Fault Refusal := (rot (randRotation (s.randItem 3)) s.randNext).outcome

/-- PUSH_FACE (R335): the face number, as a word (log entry 10), and no bridge. -/
def execPushFace (s : State) : Host.Outcome State Fault Refusal := (push (s.wrapW s.activeFace) s).outcome

/-- STORE (R336). -/
def execStore (s : State) : Host.Outcome State Fault Refusal := (bridge (s.popped.icoStore s.top)).outcome

/-- LOAD (R337): no bridge. -/
def execLoad (s : State) : Host.Outcome State Fault Refusal := (push s.icoLoad s).outcome

end Sys2Proof.Machine
end

