-- ==== Sys2Proof/Machine/Io.lean ====
section
/-! DEFINITION. The input and output opcodes (48_io.md). -/

namespace Sys2Proof.Machine

/-- The code READ_BYTE pushes (R382): the byte, or -1 at the end of the stream. -/
def itemCode : InItem → Int
  | .byte b => b.toNat
  | .eos => -1

/-- READ_BYTE (R382); the code as a word (log entry 10). -/
def execReadByte (s : State) : Host.Outcome State Fault Refusal := (push (s.wrapW (itemCode s.inItem)) s.inRead).outcome

/-- WRITE_BYTE (R383). -/
def execWriteByte (s : State) : Host.Outcome State Fault Refusal :=
  .next (s.popped.outWrite (BitVec.ofNat 8 (fmod s.top 256).toNat))

/-- The value of an ASCII digit (R384). -/
def digitValue (b : Byte) : Option Nat :=
  if 0x30 ≤ b.toNat ∧ b.toNat ≤ 0x39 then some (b.toNat - 0x30) else none

/-- The loop of READ_INT (R384) with a bound on its rounds; each round consumes the pushback slot or a byte of the input, or
ends the loop, so that `readIntRounds` rounds are enough. -/
def readDigits : Nat → Int → State → Int × State
  | 0, val, s => (val, s)
  | k + 1, val, s =>
    match s.inItem with
    | .byte b =>
      match digitValue b with
      | some d => readDigits k (s.wrapW (val * 10 + d)) s.inRead
      | none => (val, s.inRead.pushBack (.byte b))
    | .eos => (val, s.inRead.pushBack .eos)

/-- Rounds that are enough for the loop: the pushback slot, every byte left, and the end of the stream. -/
def readIntRounds (s : State) : Nat := s.input.length + 2

/-- The sign part of READ_INT (R384): `'+'` and `'-'` are consumed, any other item is pushed back. -/
def readSign (s : State) : Int × State :=
  if s.inItem = .byte 0x2B#8 then (1, s.inRead)
  else if s.inItem = .byte 0x2D#8 then (-1, s.inRead)
  else (1, s.inRead.pushBack s.inItem)

/-- READ_INT (R384). -/
def execReadInt (s : State) : Host.Outcome State Fault Refusal :=
  let sg := readSign s
  let r := readDigits (readIntRounds sg.2) 0 sg.2
  (push (s.wrapW (sg.1 * r.1)) r.2).outcome

/-- PRINT_INT (R385). -/
def execPrintInt (s : State) : Host.Outcome State Fault Refusal := .next (State.outAll (decimal s.top) s.popped)

/-- WRITE_NL (R386). -/
def execWriteNl (s : State) : Host.Outcome State Fault Refusal := .next (s.outWrite 0x0A#8)

end Sys2Proof.Machine
end

