-- ==== Sys2Proof/Machine/Misc.lean ====
section
/-! DEFINITION. The miscellaneous opcodes (49_misc.md). -/

namespace Sys2Proof.Machine

/-- STRING_TOGGLE (R410). -/
def execStringToggle (s : State) : Host.Outcome State Fault Refusal := .next s.toggleString

/-- TERMINATE (R411): the halt of 42_tick_and_move.md R216. The tick procedure ends the tick on it, without a move and without
a count. Log entry 14. -/
def execTerminate (s : State) : Host.Outcome State Fault Refusal := .next { s with runState := .haltNormal }

/-- NOP (R412). -/
def execNop (s : State) : Host.Outcome State Fault Refusal := .next s

/-- DEBUG (R413): one strobe at `DEBUG_LEVEL >= 1`. -/
def execDebug (s : State) : Host.Outcome State Fault Refusal :=
  .next (if 1 ≤ s.debugLevel.toNat then s.strobe .request else s)

end Sys2Proof.Machine
end

