-- ==== Sys2Proof/Machine/SelfMod.lean ====
section
/-! DEFINITION. The self-modifying grid operator (47_grid_selfmod.md). -/

namespace Sys2Proof.Machine

/-- `X = 2*xh + fmod(y, 2)`, an exact integer (R360). -/
def blockColumn (y xh : Int) : Int := 2 * xh + fmod y 2

/-- The block is in bounds (R360). -/
abbrev State.BlockInBounds (s : State) (x y : Int) : Prop :=
  0 ≤ x ∧ x + 2 ≤ (s.gw : Int) - 1 ∧ 0 ≤ y ∧ y + 1 ≤ (s.gh : Int) - 1

/-- The ring `H_0` to `H_5`, clockwise from the top left (R361). -/
def ringCell (x y : Int) : Nat → Coord
  | 0 => ⟨x, y⟩
  | 1 => ⟨x + 1, y⟩
  | 2 => ⟨x + 2, y⟩
  | 3 => ⟨x + 2, y + 1⟩
  | 4 => ⟨x + 1, y + 1⟩
  | _ => ⟨x, y + 1⟩

/-- `GridWrite` of each pair in turn. -/
def writeCells : List (Coord × Int) → State → Flow
  | [], s => .cont s
  | (c, v) :: rest, s => (gridWrite c v s).bind (writeCells rest)

/-- The six writes of R362: `H_i` takes the old value of `H_(i-n) mod 6`, all read before any write. -/
def ringWrites (s : State) (x y : Int) (n : Nat) : List (Coord × Int) :=
  [0, 1, 2, 3, 4, 5].map fun i => (ringCell x y i, s.gridRead (ringCell x y ((i + 6 - n) % 6)))

/-- The rotation of one block by `fmod(m, 6)` places (R362): nothing at all, not even the bridge, when the block is out of bounds. -/
def rotateBlock (y xh m : Int) (s : State) : Flow :=
  if s.BlockInBounds (blockColumn y xh) y then
    (writeCells (ringWrites s (blockColumn y xh) y (fmod m 6).toNat) s).bind bridge
  else .cont s

/-- ROTATE_CELLS (R362): the pops are `y`, `xh`, `m`, and happen in every case. -/
def execRotateCells (s : State) : Host.Outcome State Fault Refusal :=
  (rotateBlock s.top s.popped.top s.popped.popped.top s.popped.popped.popped).outcome

end Sys2Proof.Machine
end

