-- ==== Sys2Proof/Machine/Stack.lean ====
section
/-! DEFINITION. The stack opcodes (45_stack.md). The list of `State.stack` has the top first, so its last entry is the bottom. -/

namespace Sys2Proof.Machine

/-- The bottom entry moved to the top; an empty stack unchanged (R305). -/
def rotateLeft (l : List Int) : List Int :=
  match l.getLast? with
  | none => []
  | some v => v :: l.dropLast

/-- The top entry moved to the bottom; an empty stack unchanged (R306). -/
def rotateRight : List Int → List Int
  | [] => []
  | v :: l => l ++ [v]

/-- DISCARD (R300). -/
def execDiscard (s : State) : Host.Outcome State Fault Refusal := .next s.popped

/-- DUP (R301): the top is read, not popped. -/
def execDup (s : State) : Host.Outcome State Fault Refusal :=
  (if s.stack.length = 0 then push 0 s else push s.top s).outcome

/-- SWAP (R302). -/
def execSwap (s : State) : Host.Outcome State Fault Refusal :=
  ((push s.top s.popped.popped).bind (push s.popped.top)).outcome

/-- DEPTH (R303): the depth before the push, as a word (log entry 10). -/
def execDepth (s : State) : Host.Outcome State Fault Refusal := (push (s.wrapW s.stack.length) s).outcome

/-- REVERSE (R304). -/
def execReverse (s : State) : Host.Outcome State Fault Refusal := .next { s with stack := s.stack.reverse }

/-- ROTL (R305). -/
def execRotl (s : State) : Host.Outcome State Fault Refusal := .next { s with stack := rotateLeft s.stack }

/-- ROTR (R306). -/
def execRotr (s : State) : Host.Outcome State Fault Refusal := .next { s with stack := rotateRight s.stack }

end Sys2Proof.Machine
end

