-- ==== Sys2Proof/Machine/Dispatch.lean ====
section
/-! DEFINITION. One execution of one instruction (42_tick_and_move.md R226): one arm per constructor, each a direct call of its meaning. -/

namespace Sys2Proof.Machine

def exec (i : Instr) (s : State) : Host.Outcome State Fault Refusal :=
  match i with
  -- Control flow (43_control_flow.md)
  | .mirrorSwNe => Sys2Proof.Machine.execMirrorSwNe s
  | .mirrorNwSe => Sys2Proof.Machine.execMirrorNwSe s
  | .mirrorWE => Sys2Proof.Machine.execMirrorWE s
  | .mirrorNS => Sys2Proof.Machine.execMirrorNS s
  | .strafe => Sys2Proof.Machine.execStrafe s
  | .skip => Sys2Proof.Machine.execSkip s
  | .skipZ => Sys2Proof.Machine.execSkipZ s
  | .iterate => Sys2Proof.Machine.execIterate s
  | .jump => Sys2Proof.Machine.execJump s
  | .turnL => Sys2Proof.Machine.execTurnL s
  | .turnR => Sys2Proof.Machine.execTurnR s
  | .turnC => Sys2Proof.Machine.execTurnC s
  -- Arithmetic and logic (44_arithmetic.md)
  | .push0 => Sys2Proof.Machine.execPush0 s
  | .digit d => Sys2Proof.Machine.execDigit d s
  | .inc => Sys2Proof.Machine.execInc s
  | .dec => Sys2Proof.Machine.execDec s
  | .not => Sys2Proof.Machine.execNot s
  | .neg => Sys2Proof.Machine.execNeg s
  | .add => Sys2Proof.Machine.execAdd s
  | .sub => Sys2Proof.Machine.execSub s
  | .mul => Sys2Proof.Machine.execMul s
  | .div => Sys2Proof.Machine.execDiv s
  | .mod => Sys2Proof.Machine.execMod s
  | .and => Sys2Proof.Machine.execAnd s
  | .or => Sys2Proof.Machine.execOr s
  | .xor => Sys2Proof.Machine.execXor s
  | .bnot => Sys2Proof.Machine.execBnot s
  -- Stack (45_stack.md)
  | .discard => Sys2Proof.Machine.execDiscard s
  | .dup => Sys2Proof.Machine.execDup s
  | .swap => Sys2Proof.Machine.execSwap s
  | .depth => Sys2Proof.Machine.execDepth s
  | .reverse => Sys2Proof.Machine.execReverse s
  | .rotl => Sys2Proof.Machine.execRotl s
  | .rotr => Sys2Proof.Machine.execRotr s
  -- Icosahedron rotations (46_ico_ops.md)
  | .rotEdgeNw => Sys2Proof.Machine.execRotEdgeNw s
  | .rotEdgeNe => Sys2Proof.Machine.execRotEdgeNe s
  | .rotEdgeS => Sys2Proof.Machine.execRotEdgeS s
  | .rotEdgeNwN => Sys2Proof.Machine.execRotEdgeNwN s
  | .rotEdgeNeSe => Sys2Proof.Machine.execRotEdgeNeSe s
  | .rotEdgeSSw => Sys2Proof.Machine.execRotEdgeSSw s
  | .rotCornerN => Sys2Proof.Machine.execRotCornerN s
  | .rotCornerSe => Sys2Proof.Machine.execRotCornerSe s
  | .rotCornerSw => Sys2Proof.Machine.execRotCornerSw s
  | .rotFace => Sys2Proof.Machine.execRotFace s
  | .rotFlip => Sys2Proof.Machine.execRotFlip s
  | .roll => Sys2Proof.Machine.execRoll s
  | .rotCond => Sys2Proof.Machine.execRotCond s
  | .rotRand => Sys2Proof.Machine.execRotRand s
  | .pushFace => Sys2Proof.Machine.execPushFace s
  -- Icosahedron data (46_ico_ops.md)
  | .store => Sys2Proof.Machine.execStore s
  | .load => Sys2Proof.Machine.execLoad s
  -- Cursor (46_ico_ops.md)
  | .cursorGet => Sys2Proof.Machine.execCursorGet s
  | .cursorSet => Sys2Proof.Machine.execCursorSet s
  | .cursorEnd => Sys2Proof.Machine.execCursorEnd s
  | .icoMoveW => Sys2Proof.Machine.execIcoMoveW s
  | .icoMoveE => Sys2Proof.Machine.execIcoMoveE s
  | .icoMoveNw => Sys2Proof.Machine.execIcoMoveNw s
  | .icoMoveNe => Sys2Proof.Machine.execIcoMoveNe s
  | .icoMoveSw => Sys2Proof.Machine.execIcoMoveSw s
  | .icoMoveSe => Sys2Proof.Machine.execIcoMoveSe s
  -- Self-modifying grid operator (47_grid_selfmod.md)
  | .rotateCells => Sys2Proof.Machine.execRotateCells s
  -- Input and output (48_io.md)
  | .readByte => Sys2Proof.Machine.execReadByte s
  | .writeByte => Sys2Proof.Machine.execWriteByte s
  | .readInt => Sys2Proof.Machine.execReadInt s
  | .printInt => Sys2Proof.Machine.execPrintInt s
  | .writeNl => Sys2Proof.Machine.execWriteNl s
  -- Miscellaneous (49_misc.md)
  | .stringToggle => Sys2Proof.Machine.execStringToggle s
  | .terminate => Sys2Proof.Machine.execTerminate s
  | .nop => Sys2Proof.Machine.execNop s
  | .debug => Sys2Proof.Machine.execDebug s

end Sys2Proof.Machine
end

