-- ==== Sys2Proof/Machine/Move.lean ====
section
/-! DEFINITION. The move phase (42_tick_and_move.md R218 to R223). -/

namespace Sys2Proof.Machine

/-- The tries of R222 from a direction: the first of at most `k` directions whose step is in bounds, with that step. `ip` and its
parity stay the current ones. -/
def State.findStep (s : State) : Nat → Dir → Option (Dir × Coord)
  | 0, _ => none
  | k + 1, d =>
    if s.InBounds (stepFrom d s.ip) then some (d, stepFrom d s.ip)
    else s.findStep k (reflectBoundary d s.ip)

/-- `IsolatedCell()` (R223): the policy of the machine. -/
def isolatedCell (s : State) : Flow :=
  match s.params.isolated with
  | .stay => .cont s
  | .fault => raise .noMove s

/-- The normal step with boundary reflection, bounded at three tries (R222). -/
def normalStep (s : State) : Flow :=
  match s.findStep 3 s.dir with
  | some (d, c) => .cont { s with dir := d, ip := c }
  | none => isolatedCell s

/-- `Move()` (R218): the jump, else the strafe, else the normal step. -/
def move (s : State) : Flow :=
  if s.jumpValid then .cont { s with ip := s.jumpTarget, jumpValid := false }
  else if s.strafePending then
    if s.InBounds (strafeFrom s.params.strafe s.dir s.ip) then
      .cont { s with strafePending := false, ip := strafeFrom s.params.strafe s.dir s.ip }
    else normalStep { s with strafePending := false }
  else normalStep s

end Sys2Proof.Machine
end

