-- ==== Sys2Proof/Machine/Tick.lean ====
section
/-! DEFINITION. The run: its start, the tick procedure, the absorbing states (42_tick_and_move.md R210 to R219, R224 to R226;
70_reset_and_hazards.md R473), and where the fetch reads. -/

namespace Sys2Proof.Machine

/-- The fetch (R213): the cell at `ip`. -/
def State.fetch (s : State) : Int := s.gridRead s.ip

/-- The instruction the fetched cell holds (R215). -/
def State.fetchedInstr (s : State) : Instr := decode s.params.opcodeMap s.fetch

/-- The tick cap is reached (R211). -/
abbrev State.Capped (s : State) : Prop := 0 ≤ s.maxTicks.toInt ∧ s.maxTicks.toInt ≤ (s.tick : Int)

/-- The debug hook of a tick (R212). -/
def State.tickHook (s : State) : State := if 2 ≤ s.debugLevel.toNat then s.strobe .everyTick else s

/-- `repeat n: Execute(op)` (R217, R226). An execution that leaves RUNNING ends the tick at that point: a raised fault (R226), and
TERMINATE (R216). -/
def repeatExec (i : Instr) : Nat → State → Host.Outcome State Fault Refusal
  | 0, s => .next s
  | n + 1, s =>
    match exec i s with
    | .next t => if t.runState = .running then repeatExec i n t else .next t
    | .fault f => .fault f
    | .refused r => .refused r

/-- The end of a tick (R218, R219): the move, then the count, unless the move raised NO_MOVE (60_exceptions.md R437). A count
that SKIP, SKIP_Z or ITERATE wrote in a tick that ends in NO_MOVE stays written: the model's choice, log entry 24. -/
def moveAndCount (s : State) : Host.Outcome State Fault Refusal :=
  match move s with
  | .cont t => .next { t with tick := t.tick + 1 }
  | .stop t => .next t
  | .fail f => .fault f

/-- What follows the execution part of a tick: a tick that halted or faulted neither moves nor counts (R216, R441). -/
def finishTick : Host.Outcome State Fault Refusal → Host.Outcome State Fault Refusal
  | .next t => if t.runState = .running then moveAndCount t else .next t
  | .fault f => .fault f
  | .refused r => .refused r

/-- The execution part of a tick in string mode (R214): a cell equal to 0x22 ends string mode, any other is pushed raw. -/
def stringCell (s : State) : Flow :=
  if s.fetch = 0x22 then .cont { s with stringMode := false } else push s.fetch s

/-- The execution part of a tick outside string mode (R215): the count is consumed and set to 1 before the executions. -/
def decodedCell (s : State) : Host.Outcome State Fault Refusal :=
  repeatExec s.fetchedInstr s.iter { s with iter := 1 }

/-- `Tick()` (R210). -/
def tickStep (s : State) : Host.Outcome State Fault Refusal :=
  if s.Capped then .next { s with runState := .haltCapped }
  else if s.stringMode then finishTick (stringCell s.tickHook).outcome
  else finishTick (decodedCell s.tickHook)

/-- The run start (R473): an empty grid halts normally before any tick and before the cap check (R224, R475). -/
def startRun (s : State) : State :=
  { s with runState := if s.gw = 0 ∨ s.gh = 0 then .haltNormal else .running }

/-- One step of the core: the run start from IDLE, one tick while RUNNING, nothing in the absorbing states (60_exceptions.md R460);
log entry 12. -/
def coreStep (s : State) : Host.Outcome State Fault Refusal :=
  match s.runState with
  | .idle => .next (startRun s)
  | .running => tickStep s
  | .haltNormal => .next s
  | .haltCapped => .next s
  | .faulted => .next s

/-- The state in which the very next tick fetches, decodes and executes once the cell whose bits are `w`: the cell is written where the
fetch reads, in a grid that holds it, and what would keep the tick from decoding is off (the run not started, the cap, string mode,
an iterate count other than 1). Log entry 13. -/
def placeFetchWord (s : State) (w : Nat) : State :=
  let p : Coord := if 0 ≤ s.ip.x ∧ 0 ≤ s.ip.y then s.ip else ⟨0, 0⟩
  { s with
    ip := p
    gw := max s.gw (p.x.toNat + 1)
    gh := max s.gh (p.y.toNat + 1)
    grid := memWrite p (cellOfBits w) s.grid
    runState := .running
    maxTicks := if s.Capped then -1#64 else s.maxTicks
    stringMode := false
    iter := 1 }

end Sys2Proof.Machine
end

