-- ==== Sys2Proof/Safety.lean ====
section
/-! DEFINITION. What a sound state of the core is, and the words the statements are written in. -/

namespace Sys2Proof.Machine

/-- The invariant of the core. R54 of 10_state.md gives its clauses for a RUNNING core; the clauses without that condition hold in
every run state, and the last three are 10_state.md R48 and 60_exceptions.md R435, R436. -/
structure Inv (s : State) : Prop where
  /-- the launch parameters meet their constraints (30_encoding.md R103, 41_ico_engine.md R186, 40_direction_algebra.md R153) -/
  params : s.params.ok = true
  /-- the grid fits the core (00_scope.md R10) -/
  fits : s.params.gridFits s.gw s.gh = true
  /-- the store behind the grid has its canonical form -/
  gridForm : Memory.wf s.gw s.gh s.grid = true
  /-- cells, stack entries and faces are words (10_state.md R32, R35, R36, R55) -/
  gridWords : ∀ e ∈ s.grid, InRange s.params.wordBits e.2
  stackWords : ∀ v ∈ s.stack, InRange s.params.wordBits v
  faceWords : ∀ v ∈ s.faces.toList, InRange s.params.wordBits v
  /-- `0 <= depth(stack) <= STACK_MAX` (R54.6) -/
  stackBound : ∀ k, s.params.stackMax = some k → s.stack.length ≤ k
  /-- `idx` is a bijection onto `{1..20}` (R54.3) -/
  idxBijection : s.idx.toList.Nodup
  /-- `iter` is a word with `iter >= 0` (10_state.md R43) -/
  iterWord : (s.iter : Int) ≤ maxWord s.params.wordBits
  /-- `cmode != None` implies `InBounds(ico_pos)` (R54.4) -/
  cursor : s.cmode ≠ .none → s.InBounds s.icoPos
  /-- during string mode `iter` is 1 (42_tick_and_move.md R214) -/
  stringIter : s.stringMode = true → s.iter = 1
  /-- nothing is pending between ticks (R54.7, R54.8), and `ip` is in bounds (R54.2) -/
  settled : s.runState = .idle ∨ s.runState = .running →
    s.jumpValid = false ∧ s.strafePending = false ∧ (0 < s.gw → 0 < s.gh → s.InBounds s.ip)
  /-- a running core has a grid (R54.1) -/
  nonempty : s.runState = .running → 0 < s.gw ∧ 0 < s.gh
  /-- only entry to FAULTED writes the fault code (10_state.md R48) -/
  faultCode : s.faultCode ≠ .none ↔ s.runState = .faulted
  /-- PROGRAM_ERROR is never raised (60_exceptions.md R436) -/
  notReserved : s.faultCode ≠ .programError
  /-- INVARIANT is never raised under the table constraints (60_exceptions.md R435) -/
  notInvariant : s.faultCode ≠ .invariant

/-- `w` is the word congruent to the integer `z` modulo `2^n` (00_scope.md R12). -/
def IsWordOf (n : Nat) (z : Int) (w : Int) : Prop := InRange n w ∧ (2 ^ n : Int) ∣ w - z

/-- The `k`-th word from the top of the stack, 0 where the stack has none (20_memory.md R76, R78). -/
def State.operand (s : State) (k : Nat) : Int := s.stack.getD k 0

/-- After `k` pops there is room for a push (20_memory.md R77). -/
def State.roomAfter (s : State) (k : Nat) : Prop := s.params.stackMax ≠ some (s.stack.length - k)

/-- The compass angle of a direction in degrees, counter-clockwise from East (40_direction_algebra.md R142). -/
def compassAngle : Dir → Int
  | .e => 0 | .ne => 60 | .nw => 120 | .w => 180 | .sw => 240 | .se => 300

/-- The rotation of a rotation opcode that always applies the same one (46_ico_ops.md R321 to R331). -/
def namedRotation : Instr → Option Rotation
  | .rotEdgeNw => some .edgeNw | .rotEdgeNe => some .edgeNe | .rotEdgeS => some .edgeS
  | .rotEdgeNwN => some .edgeNwN | .rotEdgeNeSe => some .edgeNeSe | .rotEdgeSSw => some .edgeSSw
  | .rotCornerN => some .cornerN | .rotCornerSe => some .cornerSe | .rotCornerSw => some .cornerSw
  | .rotFace => some .face | .rotFlip => some .flip
  | _ => none

/-- The direction of a cursor move opcode (46_ico_ops.md R343 to R348). -/
def cursorMoveDir : Instr → Option Dir
  | .icoMoveW => some .w | .icoMoveE => some .e | .icoMoveNw => some .nw
  | .icoMoveNe => some .ne | .icoMoveSw => some .sw | .icoMoveSe => some .se
  | _ => none

/-- The rotation opcodes (46_ico_ops.md R321 to R334). -/
def isRotation (i : Instr) : Prop := (namedRotation i).isSome ∨ i = .roll ∨ i = .rotCond ∨ i = .rotRand

/-- The opcodes that run the bridge, a cursor move or ROTATE_CELLS only where it does something (41_ico_engine.md R189). -/
def runsBridge (i : Instr) : Prop := isRotation i ∨ i = .store ∨ (cursorMoveDir i).isSome ∨ i = .rotateCells

/-- The instructions that write nothing but the stack and push whatever they popped, with the number of words each pops before
its first push (60_exceptions.md R434). -/
def popsBeforePush : Instr → Option Nat
  | .push0 => some 0 | .dup => some 0 | .depth => some 0 | .pushFace => some 0 | .load => some 0
  | .digit _ => some 1 | .inc => some 1 | .dec => some 1 | .not => some 1 | .neg => some 1 | .bnot => some 1
  | .add => some 2 | .sub => some 2 | .mul => some 2 | .and => some 2 | .or => some 2 | .xor => some 2 | .swap => some 2
  | _ => none

/-- What the bridge does to the state `u`, as seen by reads (41_ico_engine.md R189): nothing in mode None; in mode Get the active face takes
the cell at the cursor; in mode Set the cell at the cursor takes the active face, and every other cell reads as before. -/
def Bridged (u t : State) : Prop :=
  (u.cmode = .none → t = u) ∧
  (u.cmode = .get → t = { u with faces := u.faces.set u.idx[0] (u.gridRead u.icoPos) }) ∧
  (u.cmode = .set → ∃ g, t = { u with grid := g } ∧ ∀ c, t.gridRead c = if c = u.icoPos then u.faces[u.idx[0]] else u.gridRead c)

/-- `new[k] = old[P[k]]` for every `k` (41_ico_engine.md R184). -/
def PermutedBy (p : PermTable) (old new : Vector (Fin 20) 20) : Prop := ∀ k : Fin 20, new[k] = old[p[k]]

/-- An ASCII digit (48_io.md R384). -/
def isAsciiDigit (b : Byte) : Prop := 0x30 ≤ b.toNat ∧ b.toNat ≤ 0x39

/-- The number that a row of ASCII digits stands for, most significant first. -/
def digitsNumber (l : List Byte) : Nat := l.foldl (fun n b => n * 10 + (b.toNat - 0x30)) 0

/-- The bytes an input read can still see before the end of the stream: the pushback slot, then `INPUT` (48_io.md R380). -/
def State.pending (s : State) : List Byte :=
  match s.pushback with
  | .byte b => b :: s.input
  | .eos => s.input
  | .empty => s.input

/-- The state in which the executions of a decoded tick start (42_tick_and_move.md R210): after the debug hook, the count consumed. -/
def State.decodedStart (s : State) : State := { s.tickHook with iter := 1 }

/-- A tick runs and decodes its cell: the core is running, the cap is not reached, string mode is off (R210). -/
def State.Decodes (s : State) : Prop := s.runState = .running ∧ ¬ s.Capped ∧ s.stringMode = false

end Sys2Proof.Machine
end

