-- ==== Sys2Proof/Certificates/Slice0/Obligations.lean ====
section
/-! DEFINITION. The statements about the core. Each docstring names the rules it formalises. -/

open Sys2Proof Sys2Proof.Machine

/-! ## The machine as a whole -/

/-- The reset state meets the invariant (70_reset_and_hazards.md R472; the open tables at reset are the model's choice, log entries 3
to 5). -/
def Obligations.ResetMeetsInvariant : Prop := Inv State.reset

/-- Every allowed launch ends in a state that meets the invariant (R470, R474; that `WORD_BITS` is at least 9 is the model's deduction,
log entry 2), and every launch leaves the reset values of R471 and R472. `jump_target`, which R472 leaves open, is not among them. -/
def Obligations.EveryLaunchMeetsInvariant : Prop :=
  ∀ (l : Launch) (s : State), s = State.resetWith l →
    (l.ok = true → Inv s) ∧
    s.gw = (loadText l.text).gw ∧ s.gh = (loadText l.text).gh ∧ s.grid = (loadText l.text).cells ∧
    s.ip = ⟨0, 0⟩ ∧ s.dir = .e ∧ s.stack = [] ∧ s.faces = l.params.initFaces ∧ (∀ k : Fin 20, s.idx[k] = k) ∧
    s.cmode = .none ∧ s.icoPos = ⟨0, 0⟩ ∧ s.stringMode = false ∧ s.strafePending = false ∧ s.jumpValid = false ∧
    s.iter = 1 ∧ s.pushback = .empty ∧ s.tick = 0 ∧ s.runState = .idle ∧ s.faultCode = .none ∧
    s.maxTicks = l.maxTicks ∧ s.debugLevel = l.debugLevel ∧ s.params = l.params ∧
    s.input = l.input ∧ s.output = [] ∧ s.draws = l.draws

/-- Every step keeps the invariant of 10_state.md R54, from any state that has it. -/
def Obligations.StepKeepsInvariant : Prop :=
  ∀ s t : State, Inv s → step s = .next t → Inv t

/-- No sound state makes a step stop without a next state: faults of the spec are next states (60_exceptions.md R431), and every
grid access of a sound state is in bounds (20_memory.md R72, R73). The two stops it excludes are the model's own (log entry 11). -/
def Obligations.SoundStateAlwaysSteps : Prop := ∀ s : State, Inv s → ∃ t, step s = .next t

/-- What the launch fixed stays fixed (70_reset_and_hazards.md R476; 10_state.md R31, R49). -/
def Obligations.StepKeepsConfiguration : Prop :=
  ∀ s t : State, step s = .next t →
    t.params = s.params ∧ t.gw = s.gw ∧ t.gh = s.gh ∧ t.maxTicks = s.maxTicks ∧ t.debugLevel = s.debugLevel

/-- A running step either completes its tick and counts it, or leaves RUNNING and does not count (42_tick_and_move.md R219). -/
def Obligations.TickCountsCompletedTicks : Prop :=
  ∀ s t : State, s.runState = .running → step s = .next t →
    (t.runState = .running ∧ t.tick = s.tick + 1) ∨ (t.runState ≠ .running ∧ t.tick = s.tick)

/-- Once the core has halted or faulted, no number of steps changes anything (60_exceptions.md R460). That such a step is a next state is
the model's form (log entry 12). -/
def Obligations.HaltedCoreIsConstant : Prop :=
  ∀ (s : State) (k : Nat), s.runState = .haltNormal ∨ s.runState = .haltCapped ∨ s.runState = .faulted →
    Host.Core.run Sys2Proof.core k s = .next s

/-- The run start (70_reset_and_hazards.md R473): an empty grid halts normally with result `false`, whatever the cap, and touches
nothing else (42_tick_and_move.md R224); any other grid starts running. That the run start is a step of its own is the model's
form (log entry 12). -/
def Obligations.EmptyGridHaltsBeforeAnyTick : Prop :=
  (∀ s : State, s.runState = .idle → (s.gw = 0 ∨ s.gh = 0) →
    step s = .next { s with runState := .haltNormal } ∧ ({ s with runState := .haltNormal } : State).runResult = some false) ∧
  (∀ l : Launch, ((loadText l.text).gw = 0 ∨ (loadText l.text).gh = 0) →
    ∃ t, step (State.resetWith l) = .next t ∧ t.tick = 0 ∧ t.runState = .haltNormal ∧ t.input = l.input ∧ t.output = [] ∧
      t.draws = l.draws ∧ t.strobes = []) ∧
  (∀ s : State, s.runState = .idle → 0 < s.gw → 0 < s.gh → step s = .next { s with runState := .running })

/-- The tick cap comes before everything else of a tick, TERMINATE and the debug hook included (42_tick_and_move.md R211). -/
def Obligations.CapStopsTheRunFirst : Prop :=
  ∀ s : State, s.runState = .running → 0 ≤ s.maxTicks.toInt → s.maxTicks.toInt ≤ (s.tick : Int) →
    step s = .next { s with runState := .haltCapped } ∧ ({ s with runState := .haltCapped } : State).runResult = some true

/-- A tick whose count is 1 runs the decoded instruction once: then the move and the count if the core still runs, else
nothing more (42_tick_and_move.md R210, R215, R217). The third clause is about the model and not about a rule: where the execution ends in
one of the model's own stops, the step ends in the same stop (log entry 11). -/
def Obligations.StepRunsDecodedInstruction : Prop :=
  ∀ (s : State) (i : Instr), s.Decodes → s.iter = 1 → decode s.params.opcodeMap (s.gridRead s.ip) = i → i.wf = true →
    (∀ t, exec i s.decodedStart = .next t → t.runState = .running → step s = moveAndCount t) ∧
    (∀ t, exec i s.decodedStart = .next t → t.runState ≠ .running → step s = .next t) ∧
    (∀ f, exec i s.decodedStart = .fault f → step s = .fault f)

/-- A tick whose count is `n` runs the one decoded instruction exactly `n` times, each execution on the state the one before left, then moves
and counts; with `n = 0` it only moves and counts (42_tick_and_move.md R217, R226; 20_memory.md R92). -/
def Obligations.IterateCountRepeatsLatchedOpcode : Prop :=
  ∀ (s : State) (u : Nat → State), s.Decodes → u 0 = s.decodedStart →
    (∀ k, k < s.iter →
      exec (decode s.params.opcodeMap (s.gridRead s.ip)) (u k) = .next (u (k + 1)) ∧ (u (k + 1)).runState = .running) →
    step s = moveAndCount (u s.iter)

/-- An execution that leaves RUNNING ends the tick at that point: no later execution, no move, no count
(42_tick_and_move.md R226; 60_exceptions.md R441). -/
def Obligations.StoppedExecutionEndsTick : Prop :=
  ∀ (s v : State) (u : Nat → State) (j : Nat), s.Decodes → u 0 = s.decodedStart → j < s.iter →
    (∀ k, k < j →
      exec (decode s.params.opcodeMap (s.gridRead s.ip)) (u k) = .next (u (k + 1)) ∧ (u (k + 1)).runState = .running) →
    exec (decode s.params.opcodeMap (s.gridRead s.ip)) (u j) = .next v → v.runState ≠ .running →
    step s = .next v

/-- TERMINATE halts at once, without a move and without a count, unless its count is 0; then the tick only moves and counts
(42_tick_and_move.md R216; 49_misc.md R411). -/
def Obligations.TerminateHaltsUnlessSkipped : Prop :=
  ∀ s : State, s.Decodes → s.gridRead s.ip = 0x40 →
    (0 < s.iter → step s = .next { s.decodedStart with runState := .haltNormal }) ∧
    (s.iter = 0 → step s = moveAndCount s.decodedStart)

/-- A string-mode tick (42_tick_and_move.md R214; 30_encoding.md R108, R109): the quote cell ends string mode, any other cell value is
pushed raw, and nothing is decoded; the tick then moves and counts. -/
def Obligations.StringModePushesRawCells : Prop :=
  ∀ s : State, s.runState = .running → ¬ s.Capped → s.stringMode = true →
    (s.gridRead s.ip = 0x22 → step s = moveAndCount { s.tickHook with stringMode := false }) ∧
    (s.gridRead s.ip ≠ 0x22 → s.roomAfter 0 →
      step s = moveAndCount { s.tickHook with stack := s.gridRead s.ip :: s.stack }) ∧
    (s.gridRead s.ip ≠ 0x22 → ¬ s.roomAfter 0 →
      step s = .next { s.tickHook with faultCode := .stackOverflow, runState := .faulted })

/-- The debug hook of a tick (42_tick_and_move.md R212): at `DEBUG_LEVEL >= 2` one EVERY_TICK strobe with the snapshot before
the fetch, below it nothing; nothing else of the state changes (60_exceptions.md R454). -/
def Obligations.DebugHookOnlyStrobes : Prop :=
  ∀ s : State,
    (2 ≤ s.debugLevel.toNat → s.tickHook = { s with strobes := s.strobes ++ [⟨.everyTick, s.snapshot⟩] }) ∧
    (s.debugLevel.toNat < 2 → s.tickHook = s)

/-- Only the move phase writes `ip`, and no execution counts a tick or touches the configuration (10_state.md R33, R45, R52). -/
def Obligations.NoExecutionMovesOrCounts : Prop :=
  ∀ (i : Instr) (s t : State), exec i s = .next t →
    t.ip = s.ip ∧ t.tick = s.tick ∧ t.params = s.params ∧ t.gw = s.gw ∧ t.gh = s.gh ∧
    t.maxTicks = s.maxTicks ∧ t.debugLevel = s.debugLevel

/-- The grid has no other writers than ROTATE_CELLS and the Set-mode bridge (20_memory.md R74), the faces none but STORE and the
Get-mode bridge (10_state.md R36), `idx` none but the rotations (R37); the bridge is run by the opcodes that 41_ico_engine.md R189
lists, and by no other. -/
def Obligations.OnlyNamedOpcodesWriteStorage : Prop :=
  ∀ (i : Instr) (s t : State), exec i s = .next t →
    (t.grid ≠ s.grid → i = .rotateCells ∨ (runsBridge i ∧ s.cmode = .set)) ∧
    (t.faces ≠ s.faces → i = .store ∨ (runsBridge i ∧ s.cmode = .get)) ∧
    (t.idx ≠ s.idx → isRotation i ∨ ((cursorMoveDir i).isSome ∧ s.cmode ≠ .none))

/-! ## The move phase -/

/-- The jump branch, the strafe branch, and the count that follows a move unless the move raised a fault (42_tick_and_move.md R219 to
R221; 60_exceptions.md R437). -/
def Obligations.JumpThenStrafeThenStep : Prop :=
  ∀ s : State,
    (∀ t, move s = .cont t → moveAndCount s = .next { t with tick := t.tick + 1 }) ∧
    (∀ t, move s = .stop t → moveAndCount s = .next t) ∧
    (s.jumpValid = true → move s = .cont { s with ip := s.jumpTarget, jumpValid := false }) ∧
    (s.jumpValid = false → s.strafePending = true → s.InBounds (strafeFrom s.params.strafe s.dir s.ip) →
      move s = .cont { s with strafePending := false, ip := strafeFrom s.params.strafe s.dir s.ip }) ∧
    (s.jumpValid = false → s.strafePending = true → ¬ s.InBounds (strafeFrom s.params.strafe s.dir s.ip) →
      move s = move { s with strafePending := false })

/-- The bounded step agrees with the source's unbounded loop (42_tick_and_move.md R222): if the first in-bounds step comes after `k`
reflections, whatever `k` is, the move takes it, with the direction that produced it. -/
def Obligations.ThreeTriesMatchUnboundedReflection : Prop :=
  ∀ (s : State) (k : Nat), s.jumpValid = false → s.strafePending = false → s.InBounds s.ip →
    (∀ j, j < k → ¬ s.InBounds (stepFrom ((fun d => reflectBoundary d s.ip)^[j] s.dir) s.ip)) →
    s.InBounds (stepFrom ((fun d => reflectBoundary d s.ip)^[k] s.dir) s.ip) →
    move s = .cont { s with dir := (fun d => reflectBoundary d s.ip)^[k] s.dir,
                            ip := stepFrom ((fun d => reflectBoundary d s.ip)^[k] s.dir) s.ip }

/-- The isolated cells are those of 42_tick_and_move.md R223, and there the policy decides: `stay` changes nothing, `fault`
raises NO_MOVE (60_exceptions.md R437). That a count written in the same tick stays is the model's choice (log entry 24). -/
def Obligations.IsolatedCellFollowsPolicy : Prop :=
  ∀ s : State, s.jumpValid = false → s.strafePending = false → s.InBounds s.ip →
    ((s.gw = 1 ∧ (s.gh = 1 ∨ (s.ip.y = (s.gh : Int) - 1 ∧ (2 : Int) ∣ s.ip.y))) →
      (s.params.isolated = .stay → move s = .cont s) ∧
      (s.params.isolated = .fault → move s = .stop { s with faultCode := .noMove, runState := .faulted })) ∧
    (¬ (s.gw = 1 ∧ (s.gh = 1 ∨ (s.ip.y = (s.gh : Int) - 1 ∧ (2 : Int) ∣ s.ip.y))) →
      ∃ d c, move s = .cont { s with dir := d, ip := c } ∧ s.InBounds c ∧ c = stepFrom d s.ip)

/-- A step taken back in the reverse direction returns to where it began (40_direction_algebra.md R155). -/
def Obligations.StepIsReversible : Prop :=
  ∀ (d : Dir) (c : Coord), stepFrom (reverseDir d) (stepFrom d c) = c

/-- Every step lands on one of the three edge neighbours of the cell (40_direction_algebra.md R151). -/
def Obligations.StepLandsOnEdgeNeighbour : Prop :=
  ∀ (d : Dir) (c : Coord),
    ((2 : Int) ∣ c.x + c.y → stepFrom d c ∈ [(⟨c.x - 1, c.y⟩ : Coord), ⟨c.x + 1, c.y⟩, ⟨c.x, c.y + 1⟩]) ∧
    (¬ (2 : Int) ∣ c.x + c.y → stepFrom d c ∈ [(⟨c.x - 1, c.y⟩ : Coord), ⟨c.x + 1, c.y⟩, ⟨c.x, c.y - 1⟩])

/-! ## Decoding -/

/-- Decode and encode agree for every well-formed instruction that the machine can encode, whatever its `OPCODE_MAP`
(30_encoding.md R102, R103). -/
def Obligations.DecodeInvertsEncode : Prop :=
  ∀ (m : OpcodeMap) (i : Instr) (w : Int), OpcodeMap.ok m = true → i.wf = true → encode m i = some w → decode m w = i

/-- The decoder characterised (R102, R104, R105): a cell value decodes to an instruction other than NOP exactly if the value is its fixed
byte or a byte that `OPCODE_MAP` assigns to it, and what it decodes to is well formed (R106). -/
def Obligations.DecodeReadsOnlyAssignedBytes : Prop :=
  ∀ (m : OpcodeMap) (v : Int), OpcodeMap.ok m = true →
    (decode m v).wf = true ∧
    ∀ i : Instr, i ≠ .nop → (decode m v = i ↔ ∃ b : Nat, v = b ∧ (fixedByteOf i = some b ∨ (b, i) ∈ m))

/-- The seventeen bytes the spec fixes decode to its opcodes under every `OPCODE_MAP`, and the values just outside 0..0x7F to NOP (R103, R105). -/
def Obligations.FixedBytesDecode : Prop :=
  ∀ m : OpcodeMap,
    decode m 0x22 = .stringToggle ∧ decode m 0x23 = .push0 ∧ decode m 0x2B = .add ∧ decode m 0x2D = .sub ∧
    (∀ d : Nat, d < 10 → decode m (0x30 + d) = .digit d) ∧ decode m 0x40 = .terminate ∧
    decode m 0x49 = .readInt ∧ decode m 0x4F = .printInt ∧ decode m 0x00 = .nop ∧ decode m 0x7F = .nop ∧
    decode m 0x80 = .nop ∧ decode m (-1) = .nop

/-! ## Words -/

/-- `wrap` gives the one word congruent to its argument (00_scope.md R12). -/
def Obligations.WrapIsTheCongruentWord : Prop :=
  ∀ (n : Nat) (z w : Int), 0 < n → (IsWordOf n z w ↔ w = wrap n z)

/-! ## Arithmetic and logic -/

/-- ADD, SUB and MUL (44_arithmetic.md R270, R277 to R279): the top is the right operand, a missing operand is 0, the result is the exact
one reduced to a word; nothing else changes. -/
def Obligations.AddSubMulPushTheWrappedResult : Prop :=
  ∀ s : State, 0 < s.params.wordBits → s.roomAfter 2 →
    (∃ w, exec .add s = .next { s with stack := w :: s.stack.drop 2 } ∧ IsWordOf s.params.wordBits (s.operand 1 + s.operand 0) w) ∧
    (∃ w, exec .sub s = .next { s with stack := w :: s.stack.drop 2 } ∧ IsWordOf s.params.wordBits (s.operand 1 - s.operand 0) w) ∧
    (∃ w, exec .mul s = .next { s with stack := w :: s.stack.drop 2 } ∧ IsWordOf s.params.wordBits (s.operand 1 * s.operand 0) w)

/-- INC, DEC and NEG (R273, R274, R276). -/
def Obligations.IncDecNegPushTheWrappedResult : Prop :=
  ∀ s : State, 0 < s.params.wordBits → s.roomAfter 1 →
    (∃ w, exec .inc s = .next { s with stack := w :: s.stack.tail } ∧ IsWordOf s.params.wordBits (s.operand 0 + 1) w) ∧
    (∃ w, exec .dec s = .next { s with stack := w :: s.stack.tail } ∧ IsWordOf s.params.wordBits (s.operand 0 - 1) w) ∧
    (∃ w, exec .neg s = .next { s with stack := w :: s.stack.tail } ∧ IsWordOf s.params.wordBits (-s.operand 0) w)

/-- DIGIT (R272): the popped accumulator grows in magnitude by one decimal digit. -/
def Obligations.DigitExtendsTheAccumulator : Prop :=
  ∀ (s : State) (d : Nat), 0 < s.params.wordBits → s.roomAfter 1 →
    ∃ w, exec (.digit d) s = .next { s with stack := w :: s.stack.tail } ∧
      (0 ≤ s.operand 0 → IsWordOf s.params.wordBits (10 * s.operand 0 + d) w) ∧
      (s.operand 0 < 0 → IsWordOf s.params.wordBits (-(10 * |s.operand 0| + d)) w)

/-- DIV and MOD (R280, R281; 00_scope.md R13): quotient and remainder of the division that rounds toward negative infinity; the
remainder is 0 or has the divisor's sign. -/
def Obligations.DivModPushFloorQuotientAndRemainder : Prop :=
  ∀ s : State, 0 < s.params.wordBits → s.roomAfter 2 → s.operand 0 ≠ 0 →
    ∃ q r w : Int, s.operand 1 = s.operand 0 * q + r ∧ |r| < |s.operand 0| ∧ (r = 0 ∨ (0 < r ↔ 0 < s.operand 0)) ∧
      IsWordOf s.params.wordBits q w ∧
      exec .div s = .next { s with stack := w :: s.stack.drop 2 } ∧
      exec .mod s = .next { s with stack := r :: s.stack.drop 2 }

/-- DIV_BY_ZERO (60_exceptions.md R433): a zero divisor, an empty stack's included, faults with both operands popped and nothing
pushed; no other state changes (R431). -/
def Obligations.ZeroDivisorFaults : Prop :=
  ∀ s : State, s.operand 0 = 0 →
    exec .div s = .next { s with stack := s.stack.drop 2, faultCode := .divByZero, runState := .faulted } ∧
    exec .mod s = .next { s with stack := s.stack.drop 2, faultCode := .divByZero, runState := .faulted }

/-- AND, OR, XOR and BNOT work bit by bit on the two's-complement words (R282 to R285). -/
def Obligations.BitwiseOpcodesActOnEveryBit : Prop :=
  ∀ s : State, 0 < s.params.wordBits →
    (s.roomAfter 2 →
      (∃ w, exec .and s = .next { s with stack := w :: s.stack.drop 2 } ∧ InRange s.params.wordBits w ∧
        ∀ k, k < s.params.wordBits → w.testBit k = ((s.operand 1).testBit k && (s.operand 0).testBit k)) ∧
      (∃ w, exec .or s = .next { s with stack := w :: s.stack.drop 2 } ∧ InRange s.params.wordBits w ∧
        ∀ k, k < s.params.wordBits → w.testBit k = ((s.operand 1).testBit k || (s.operand 0).testBit k)) ∧
      (∃ w, exec .xor s = .next { s with stack := w :: s.stack.drop 2 } ∧ InRange s.params.wordBits w ∧
        ∀ k, k < s.params.wordBits → w.testBit k = ((s.operand 1).testBit k ^^ (s.operand 0).testBit k))) ∧
    (s.roomAfter 1 →
      ∃ w, exec .bnot s = .next { s with stack := w :: s.stack.tail } ∧ IsWordOf s.params.wordBits (-s.operand 0 - 1) w)

/-- NOT (R275) and the opcodes that push without popping: PUSH0 (R271), DUP (45_stack.md R301), DEPTH (R303), PUSH_FACE
(46_ico_ops.md R335), LOAD (R337). That a depth no word holds is reduced to a word is the model's deduction (log entry 10). -/
def Obligations.PushingOpcodesPushTheirValue : Prop :=
  ∀ s : State, 9 ≤ s.params.wordBits →
    (s.roomAfter 1 → exec .not s = .next { s with stack := (if s.operand 0 = 0 then 1 else 0) :: s.stack.tail }) ∧
    (s.roomAfter 0 →
      exec .push0 s = .next { s with stack := 0 :: s.stack } ∧
      exec .dup s = .next { s with stack := s.operand 0 :: s.stack } ∧
      exec .load s = .next { s with stack := s.faces[s.idx[0]] :: s.stack } ∧
      exec .pushFace s = .next { s with stack := ((s.idx[0].val : Int) + 1) :: s.stack } ∧
      ∃ w, exec .depth s = .next { s with stack := w :: s.stack } ∧ IsWordOf s.params.wordBits s.stack.length w)

/-- STACK_OVERFLOW (60_exceptions.md R434, R441; 20_memory.md R77): a push at depth `STACK_MAX` faults, with the pops done and the push not
done. DIV and MOD reach their push with a divisor other than 0 only (R439); of SWAP's two pushes (45_stack.md R302) the first stays when
the second faults. The two input opcodes are in `ReadByteServesPushbackFirst` and `ReadIntParsesSignAndDigits`. -/
def Obligations.PushOnFullStackFaults : Prop :=
  ∀ s : State,
    (∀ (i : Instr) (k : Nat), popsBeforePush i = some k → s.params.stackMax = some (s.stack.length - k) →
      exec i s = .next { s with stack := s.stack.drop k, faultCode := .stackOverflow, runState := .faulted }) ∧
    (∀ i ∈ [Instr.div, .mod], s.operand 0 ≠ 0 → s.params.stackMax = some (s.stack.length - 2) →
      exec i s = .next { s with stack := s.stack.drop 2, faultCode := .stackOverflow, runState := .faulted }) ∧
    (s.params.stackMax = some (s.stack.length - 2 + 1) →
      exec .swap s = .next { s with
        stack := s.operand 0 :: s.stack.drop 2
        faultCode := .stackOverflow
        runState := .faulted })

/-! ## Stack -/

/-- DISCARD, SWAP, REVERSE, ROTL and ROTR (45_stack.md R300, R302, R304 to R306), the stack read from its bottom. -/
def Obligations.StackOpcodesRearrange : Prop :=
  ∀ s : State,
    exec .discard s = .next { s with stack := s.stack.tail } ∧
    exec .reverse s = .next { s with stack := s.stack.reverse } ∧
    (s.stack = [] → exec .rotl s = .next s ∧ exec .rotr s = .next s) ∧
    (∀ (bottom : Int) (rest : List Int), s.stack.reverse = bottom :: rest →
      ∃ l, exec .rotl s = .next { s with stack := l } ∧ l.reverse = rest ++ [bottom]) ∧
    (∀ (top : Int) (rest : List Int), s.stack.reverse = rest ++ [top] →
      ∃ l, exec .rotr s = .next { s with stack := l } ∧ l.reverse = top :: rest) ∧
    (s.roomAfter 2 → s.params.stackMax ≠ some (s.stack.length - 2 + 1) →
      exec .swap s = .next { s with stack := s.operand 1 :: s.operand 0 :: s.stack.drop 2 })

/-- DUP and then DISCARD leaves every stack with room unchanged (45_stack.md R301), ROTR undoes ROTL (R306), and `n = depth` executions of
ROTL are the identity (R305). -/
def Obligations.StackOpcodesUndoEachOther : Prop :=
  ∀ s : State,
    (s.roomAfter 0 → ∃ t, exec .dup s = .next t ∧ exec .discard t = .next s) ∧
    (∃ t, exec .rotl s = .next t ∧ exec .rotr t = .next s) ∧
    (s.runState = .running → repeatExec .rotl s.stack.length s = .next s)

/-! ## Control flow -/

/-- The four mirrors reflect the direction across the named axis, at 60, 120, 0 and 90 degrees (43_control_flow.md R240 to R243;
40_direction_algebra.md R146 to R149). -/
def Obligations.MirrorsReflectAcrossTheirAxis : Prop :=
  ∀ (s : State) (i : Instr) (axis : Int),
    (i, axis) ∈ [(Instr.mirrorSwNe, (60 : Int)), (.mirrorNwSe, 120), (.mirrorWE, 0), (.mirrorNS, 90)] →
    ∃ d, exec i s = .next { s with dir := d } ∧ (compassAngle d + compassAngle s.dir - 2 * axis) % 360 = 0

/-- TURN_L and TURN_R turn by 60 degrees, TURN_C to the left for a popped word of at most 0 and to the right else
(43_control_flow.md R249 to R251). -/
def Obligations.TurnsRotateBySixtyDegrees : Prop :=
  ∀ s : State,
    (∃ d, exec .turnL s = .next { s with dir := d } ∧ (compassAngle d - compassAngle s.dir - 60) % 360 = 0) ∧
    (∃ d, exec .turnR s = .next { s with dir := d } ∧ (compassAngle d - compassAngle s.dir + 60) % 360 = 0) ∧
    (∃ d, exec .turnC s = .next { s with stack := s.stack.tail, dir := d } ∧
      (s.operand 0 ≤ 0 → (compassAngle d - compassAngle s.dir - 60) % 360 = 0) ∧
      (0 < s.operand 0 → (compassAngle d - compassAngle s.dir + 60) % 360 = 0))

/-- STRAFE, SKIP, SKIP_Z and ITERATE write the pending flag and the count, and nothing else but the pop (R244 to R247). -/
def Obligations.StrafeAndCountOpcodes : Prop :=
  ∀ s : State,
    exec .strafe s = .next { s with strafePending := !s.strafePending } ∧
    exec .skip s = .next { s with iter := 0 } ∧
    (s.operand 0 = 0 → exec .skipZ s = .next { s with stack := s.stack.tail, iter := 0 }) ∧
    (s.operand 0 ≠ 0 → exec .skipZ s = .next { s with stack := s.stack.tail }) ∧
    ∃ k : Nat, exec .iterate s = .next { s with stack := s.stack.tail, iter := k } ∧ (k : Int) = max 0 (s.operand 0)

/-- JUMP, CURSOR_GET and CURSOR_SET pop `y` and then `x` and take them modulo the grid size, so that the coordinate is in the grid
(43_control_flow.md R248; 46_ico_ops.md R338, R339); CURSOR_END only leaves the cursor mode (R340). -/
def Obligations.PoppedCoordinatesWrapIntoTheGrid : Prop :=
  ∀ s : State,
    exec .cursorEnd s = .next { s with cmode := .none } ∧
    (0 < s.gw → 0 < s.gh → ∃ c : Coord, s.InBounds c ∧ (s.gw : Int) ∣ c.x - s.operand 1 ∧ (s.gh : Int) ∣ c.y - s.operand 0 ∧
      exec .jump s = .next { s with stack := s.stack.drop 2, jumpTarget := c, jumpValid := true } ∧
      exec .cursorGet s = .next { s with stack := s.stack.drop 2, icoPos := c, cmode := .get } ∧
      exec .cursorSet s = .next { s with stack := s.stack.drop 2, icoPos := c, cmode := .set })

/-! ## The icosahedron -/

/-- The eleven rotation opcodes permute `idx` by their table and then bridge once (46_ico_ops.md R320 to R331; 41_ico_engine.md R184). -/
def Obligations.NamedRotationsPermuteThenBridge : Prop :=
  ∀ (s : State) (i : Instr) (r : Rotation), Inv s → namedRotation i = some r →
    ∃ u t : State, u = { s with idx := u.idx } ∧ PermutedBy s.params.rotTable[rotationIndex r] s.idx u.idx ∧
      Bridged u t ∧ exec i s = .next t

/-- ROT_COND pops a word and applies `edge_nw`, `edge_s` or `edge_ne` by its sign (46_ico_ops.md R333). -/
def Obligations.ConditionalRotationFollowsTheSign : Prop :=
  ∀ (s : State) (r : Rotation), Inv s →
    ((s.operand 0 < 0 ∧ r = .edgeNw) ∨ (s.operand 0 = 0 ∧ r = .edgeS) ∨ (0 < s.operand 0 ∧ r = .edgeNe)) →
    ∃ u t : State, u = { s with stack := s.stack.tail, idx := u.idx } ∧
      PermutedBy s.params.rotTable[rotationIndex r] s.idx u.idx ∧ Bridged u t ∧ exec .rotCond s = .next t

/-- ROT_RAND applies one of the three edge rotations, the one its draw selects (46_ico_ops.md R334; 60_exceptions.md R457). A draw after
the list is any number, which is the model's choice (log entry 6). -/
def Obligations.RandomRotationUsesOneDraw : Prop :=
  ∀ s : State, Inv s →
    ∃ (k f : Nat) (r : Rotation) (u t : State), (∀ d rest, s.draws = d :: rest → k = d % 3 ∧ f = s.freeDraws) ∧
      ((k = 0 ∧ r = .edgeNw) ∨ (k = 1 ∧ r = .edgeNe) ∨ (k = 2 ∧ r = .edgeS)) ∧
      u = { s with draws := s.draws.tail, freeDraws := f, idx := u.idx } ∧
      PermutedBy s.params.rotTable[rotationIndex r] s.idx u.idx ∧ Bridged u t ∧ exec .rotRand s = .next t

/-- ROLL takes four draws and applies `corner_n`, `face`, `edge_nw_n` and `edge_ne_se` as often as they say, in that order, then
bridges once (46_ico_ops.md R332). A draw after the list is any number, which is the model's choice (log entry 6). -/
def Obligations.RollAppliesItsFourDraws : Prop :=
  ∀ s : State, Inv s →
    ∃ (k₁ k₂ k₃ k₄ f : Nat) (u t : State), k₁ < 5 ∧ k₂ < 3 ∧ k₃ < 2 ∧ k₄ < 2 ∧
      (∀ a, s.draws[0]? = some a → k₁ = a % 5) ∧ (∀ a, s.draws[1]? = some a → k₂ = a % 3) ∧
      (∀ a, s.draws[2]? = some a → k₃ = a % 2) ∧ (∀ a, s.draws[3]? = some a → k₄ = a % 2) ∧
      (4 ≤ s.draws.length → f = s.freeDraws) ∧
      u = { s with draws := s.draws.drop 4, freeDraws := f,
                   idx := (permute (s.table .edgeNeSe))^[k₄] ((permute (s.table .edgeNwN))^[k₃]
                     ((permute (s.table .face))^[k₂] ((permute (s.table .cornerN))^[k₁] s.idx))) } ∧
      Bridged u t ∧ exec .roll s = .next t

/-- Rotation `A` and then rotation `B` give `idx'[i] = idx[P_A[P_B[i]]]` (41_ico_engine.md R190). -/
def Obligations.RotationsComposeInReverseOrder : Prop :=
  ∀ (pa pb : PermTable) (idx : Vector (Fin 20) 20) (i : Fin 20), (permute pb (permute pa idx))[i] = idx[pa[pb[i]]]

/-- The orders the spec states (41_ico_engine.md R186): with no cursor, two executions of an edge rotation or of ROT_FLIP, or three of
ROT_FACE, restore the whole state. -/
def Obligations.RotationOrdersRestoreTheState : Prop :=
  ∀ s : State, Inv s → s.cmode = .none →
    (∀ i ∈ [Instr.rotEdgeNw, .rotEdgeNe, .rotEdgeS, .rotEdgeNwN, .rotEdgeNeSe, .rotEdgeSSw, .rotFlip],
      ∃ t, exec i s = .next t ∧ exec i t = .next s) ∧
    ∃ t u, exec .rotFace s = .next t ∧ exec .rotFace t = .next u ∧ exec .rotFace u = .next s

/-- A rotation whose table would leave `idx` no bijection raises INVARIANT and writes nothing else (60_exceptions.md R435). -/
def Obligations.BadTableRaisesInvariant : Prop :=
  ∀ (s : State) (i : Instr) (r : Rotation), namedRotation i = some r →
    (∃ j k : Fin 20, j ≠ k ∧ s.idx[(s.params.rotTable[rotationIndex r])[j]] = s.idx[(s.params.rotTable[rotationIndex r])[k]]) →
    exec i s = .next { s with faultCode := .invariant, runState := .faulted }

/-- STORE pops a word into the active face and bridges (46_ico_ops.md R336), and LOAD without a cursor reads it back (R337). -/
def Obligations.StoreWritesTheActiveFace : Prop :=
  ∀ s : State, Inv s →
    (∃ t, Bridged { s with stack := s.stack.tail, faces := s.faces.set s.idx[0] (s.operand 0) } t ∧ exec .store s = .next t) ∧
    (s.cmode = .none → s.roomAfter 1 →
      ∃ t, exec .store s = .next t ∧ exec .load t = .next { t with stack := s.operand 0 :: s.stack.tail })

/-- A cursor move does nothing in mode None or towards a cell outside the grid; else it rolls the icosahedron over the edge of the
departing cell, advances the cursor and bridges at the new cell (46_ico_ops.md R341 to R348). -/
def Obligations.CursorMovesRollTheIcosahedron : Prop :=
  ∀ (s : State) (i : Instr) (d : Dir), Inv s → cursorMoveDir i = some d →
    (s.cmode = .none ∨ ¬ s.InBounds (stepFrom d s.icoPos) → exec i s = .next s) ∧
    (s.cmode ≠ .none → s.InBounds (stepFrom d s.icoPos) →
      ∃ u t : State, u = { s with idx := u.idx, icoPos := stepFrom d s.icoPos } ∧
        PermutedBy s.params.rotTable[rotationIndex (icoMoveRotation s.params.icoMove d s.icoPos)] s.idx u.idx ∧
        Bridged u t ∧ exec i s = .next t)

/-! ## The self-modifying grid operator -/

/-- ROTATE_CELLS with its block in bounds (47_grid_selfmod.md R360 to R362): each of the six ring cells takes the value of the cell `m mod 6`
places before it, every other cell reads as before, and the bridge runs once. -/
def Obligations.RotateCellsTurnsTheHexagon : Prop :=
  ∀ (s : State) (x : Int) (n : Nat), Inv s → x = 2 * s.operand 1 + s.operand 0 % 2 → n < 6 → (6 : Int) ∣ (n : Int) - s.operand 2 →
    0 ≤ x → x + 2 ≤ (s.gw : Int) - 1 → 0 ≤ s.operand 0 → s.operand 0 + 1 ≤ (s.gh : Int) - 1 →
    ∃ u t : State, u = { s with stack := s.stack.drop 3, grid := u.grid } ∧
      (∀ i, i < 6 → u.gridRead (ringCell x (s.operand 0) ((i + n) % 6)) = s.gridRead (ringCell x (s.operand 0) i)) ∧
      (∀ c, (∀ i, i < 6 → c ≠ ringCell x (s.operand 0) i) → u.gridRead c = s.gridRead c) ∧
      Bridged u t ∧ exec .rotateCells s = .next t

/-- ROTATE_CELLS with its block out of bounds pops its three words and does nothing else: no cell, no bridge (R362). -/
def Obligations.RotateCellsOutOfBoundsOnlyPops : Prop :=
  ∀ (s : State) (x : Int), x = 2 * s.operand 1 + s.operand 0 % 2 →
    ¬ (0 ≤ x ∧ x + 2 ≤ (s.gw : Int) - 1 ∧ 0 ≤ s.operand 0 ∧ s.operand 0 + 1 ≤ (s.gh : Int) - 1) →
    exec .rotateCells s = .next { s with stack := s.stack.drop 3 }

/-! ## Input and output -/

/-- READ_BYTE (48_io.md R380, R382): the pushback slot first, then the stream; -1 at the end, every time. On a full stack the slot or
the byte is consumed before the push faults (60_exceptions.md R434, R441). -/
def Obligations.ReadByteServesPushbackFirst : Prop :=
  ∀ s : State, 9 ≤ s.params.wordBits →
    (s.roomAfter 0 →
      (∀ b, s.pushback = .byte b → exec .readByte s = .next { s with pushback := .empty, stack := (b.toNat : Int) :: s.stack }) ∧
      (s.pushback = .eos → exec .readByte s = .next { s with pushback := .empty, stack := -1 :: s.stack }) ∧
      (∀ b rest, s.pushback = .empty → s.input = b :: rest →
        exec .readByte s = .next { s with input := rest, stack := (b.toNat : Int) :: s.stack }) ∧
      (s.pushback = .empty → s.input = [] → exec .readByte s = .next { s with stack := -1 :: s.stack })) ∧
    (¬ s.roomAfter 0 →
      (s.pushback ≠ .empty →
        exec .readByte s = .next { s with pushback := .empty, faultCode := .stackOverflow, runState := .faulted }) ∧
      (s.pushback = .empty →
        exec .readByte s = .next { s with input := s.input.tail, faultCode := .stackOverflow, runState := .faulted }))

/-- WRITE_BYTE and WRITE_NL (R383, R386): one byte, the popped word modulo 256 or the line feed. -/
def Obligations.ByteOutputOpcodes : Prop :=
  ∀ s : State,
    (∃ b : Byte, exec .writeByte s = .next { s with stack := s.stack.tail, output := s.output ++ [b] } ∧
      (b.toNat : Int) = s.operand 0 % 256) ∧
    exec .writeNl s = .next { s with output := s.output ++ [0x0A#8] }

/-- READ_INT touches the input, the pushback slot and the stack only; it reads an optional sign and the digits after it, and pushes the
byte that ended them back (48_io.md R384). On a full stack the push faults after all of the reading (60_exceptions.md R434, R441). -/
def Obligations.ReadIntParsesSignAndDigits : Prop :=
  ∀ s : State, 0 < s.params.wordBits →
    (∃ w rest p,
      (s.roomAfter 0 → exec .readInt s = .next { s with input := rest, pushback := p, stack := w :: s.stack }) ∧
      (¬ s.roomAfter 0 → exec .readInt s = .next { s with
        input := rest
        pushback := p
        faultCode := .stackOverflow
        runState := .faulted })) ∧
    (s.pushback = .eos →
      (s.roomAfter 0 → exec .readInt s = .next { s with stack := 0 :: s.stack }) ∧
      (¬ s.roomAfter 0 → exec .readInt s = .next { s with faultCode := .stackOverflow, runState := .faulted })) ∧
    (∀ sign digits rest : List Byte, s.pushback ≠ .eos → s.pending = sign ++ digits ++ rest →
      sign = [] ∨ sign = [0x2B#8] ∨ sign = [0x2D#8] →
      (sign = [] → digits = [] → ∀ b, rest.head? = some b → b ≠ 0x2B#8 ∧ b ≠ 0x2D#8) →
      (∀ b ∈ digits, isAsciiDigit b) → (∀ b, rest.head? = some b → ¬ isAsciiDigit b) →
      (s.roomAfter 0 → ∃ w, exec .readInt s = .next { s with
          input := rest.tail
          pushback := (rest.head?.map Pushback.byte).getD .eos
          stack := w :: s.stack } ∧
        IsWordOf s.params.wordBits (if sign = [0x2D#8] then -(digitsNumber digits : Int) else digitsNumber digits) w) ∧
      (¬ s.roomAfter 0 → exec .readInt s = .next { s with
          input := rest.tail
          pushback := (rest.head?.map Pushback.byte).getD .eos
          faultCode := .stackOverflow
          runState := .faulted }))

/-- PRINT_INT (R385, R387): a minus sign for a negative number, then its digits, with no leading zero and nothing after them. -/
def Obligations.PrintIntWritesDecimal : Prop :=
  ∀ s : State, ∃ digits : List Byte,
    digits ≠ [] ∧ (∀ b ∈ digits, isAsciiDigit b) ∧ (digits.head? = some 0x30#8 → digits = [0x30#8]) ∧
    digitsNumber digits = (s.operand 0).natAbs ∧
    exec .printInt s = .next { s with
      stack := s.stack.tail
      output := s.output ++ (if s.operand 0 < 0 then 0x2D#8 :: digits else digits) }

/-- READ_INT reads back what PRINT_INT printed (R384, R385, R387). -/
def Obligations.ReadIntInvertsPrintInt : Prop :=
  ∀ (s t : State) (text : List Byte), 0 < s.params.wordBits → s.roomAfter 1 → InRange s.params.wordBits (s.operand 0) →
    exec .printInt s = .next t → t.output = s.output ++ text →
    exec .readInt { t with input := text, pushback := .empty } =
      .next { t with input := [], pushback := .eos, stack := s.operand 0 :: s.stack.tail }

/-! ## Miscellaneous -/

/-- STRING_TOGGLE, NOP, DEBUG and TERMINATE (49_misc.md R410 to R413). What an execution of TERMINATE does is the model's choice (log
entry 14); what a tick does with it is `Obligations.TerminateHaltsUnlessSkipped`. -/
def Obligations.MiscellaneousOpcodes : Prop :=
  ∀ s : State,
    exec .stringToggle s = .next { s with stringMode := !s.stringMode } ∧
    exec .nop s = .next s ∧
    exec .terminate s = .next { s with runState := .haltNormal } ∧
    (s.debugLevel.toNat = 0 → exec .debug s = .next s) ∧
    (1 ≤ s.debugLevel.toNat → exec .debug s = .next { s with strobes := s.strobes ++ [⟨.request, s.snapshot⟩] })

/-! ## The loader -/

/-- The lines of a program text (70_reset_and_hazards.md R474): line feeds end lines, and a text that ends without one has its
last line too. -/
def Obligations.LoaderSplitsAtLineFeeds : Prop :=
  ∀ (lines : List (List Byte)) (last : List Byte),
    (∀ l ∈ lines, lineFeed ∉ l) → lineFeed ∉ last →
    textLines (lines.flatMap fun l => l ++ [lineFeed]) = lines ∧
    (last ≠ [] → textLines ((lines.flatMap fun l => l ++ [lineFeed]) ++ last) = lines ++ [last])

/-- The loaded grid (R474; 10_state.md R31, R32): as high as there are lines, as wide as the longest one, one cell per byte, padded with 0 on
the right. -/
def Obligations.LoadedGridHoldsTheText : Prop :=
  ∀ l : Launch,
    (State.resetWith l).gh = (textLines l.text).length ∧
    (∀ row ∈ textLines l.text, row.length ≤ (State.resetWith l).gw) ∧
    ((State.resetWith l).gw = 0 ∨ ∃ row ∈ textLines l.text, row.length = (State.resetWith l).gw) ∧
    (∀ (x y : Nat) (row : List Byte), (textLines l.text)[y]? = some row → x < (State.resetWith l).gw →
      (State.resetWith l).gridRead ⟨x, y⟩ = ((row[x]?).map fun b => (b.toNat : Int)).getD 0)

/-! ## The snapshot -/

/-- The debug snapshot (60_exceptions.md R455): the elements with the numbers of 10_state.md R52, the encodings of R34, R38, R47 and
60_exceptions.md R432, and beside them the grid, the stack from its bottom (R35), the faces and the face numbers of `idx`. -/
def Obligations.SnapshotShowsTheState : Prop :=
  ∀ (s : State) (n : Snapshot), n = s.snapshot →
    (∀ r v, (r, v) ∈ [(RunState.idle, (0 : Int)), (.running, 1), (.haltNormal, 2), (.haltCapped, 3), (.faulted, 4)] →
      s.runState = r → n.element 0 = some (.number v)) ∧
    (∀ f v, (f, v) ∈ [(FaultCode.none, (0 : Int)), (.divByZero, 1), (.stackOverflow, 2), (.invariant, 3), (.programError, 4),
        (.noMove, 5)] → s.faultCode = f → n.element 1 = some (.number v)) ∧
    n.element 2 = some (.number s.tick) ∧ n.element 3 = some (.number s.maxTicks.toInt) ∧
    n.element 4 = some (.number s.debugLevel.toNat) ∧ n.element 5 = some (.coord s.ip) ∧
    (∀ d v, (d, v) ∈ [(Dir.ne, (0 : Int)), (.e, 1), (.se, 2), (.sw, 3), (.w, 4), (.nw, 5)] →
      s.dir = d → n.element 6 = some (.number v)) ∧
    n.element 7 = some (.number s.iter) ∧ n.element 8 = some (.flag s.stringMode) ∧ n.element 9 = some (.flag s.strafePending) ∧
    n.element 10 = some (.target s.jumpValid s.jumpTarget) ∧
    (∀ m v, (m, v) ∈ [(CursorMode.none, (0 : Int)), (.get, 1), (.set, 2)] → s.cmode = m → n.element 11 = some (.number v)) ∧
    n.element 12 = some (.coord s.icoPos) ∧ n.element 13 = some (.slot s.pushback) ∧
    n.gw = s.gw ∧ n.gh = s.gh ∧ n.grid = s.grid ∧ n.stack = s.stack.reverse ∧ n.faces = s.faces ∧
    n.idx.length = 20 ∧ ∀ k : Fin 20, n.idx[k.val]? = some (s.idx[k].val + 1)
end

