-- ==== Sys2Proof/Laws/Memory.lean ====
section
/-! SUPPORT. The laws of the grid's store: read after write, and that every write keeps the canonical form. -/

namespace Sys2Proof.Machine

/-- A write leaves every other cell alone. -/
theorem memRead_memWrite_ne (c d : Coord) (v : Int) (m : Memory) (h : d ≠ c) :
    memRead d (memWrite c v m) = memRead d m := by
  induction m with
  | nil => by_cases hv : v = unlistedCell <;> simp [memWrite, memRead, hv, h]
  | cons e m ih =>
    obtain ⟨k, w⟩ := e
    by_cases hk : c = k
    · subst hk
      by_cases hv : v = unlistedCell <;> simp [memWrite, memRead, hv, h]
    · by_cases hb : coordBefore c k
      · by_cases hv : v = unlistedCell <;> simp [memWrite, memRead, hv, h, hk, hb]
      · simp [memWrite, memRead, hk, hb, ih]

theorem coordBefore_irrefl (c : Coord) : ¬ coordBefore c c := by simp [coordBefore]

theorem coordBefore_trans {a b c : Coord} (h₁ : coordBefore a b) (h₂ : coordBefore b c) : coordBefore a c := by
  simp only [coordBefore] at *; omega

theorem coordBefore_of_not {c k : Coord} (hk : c ≠ k) (hb : ¬ coordBefore c k) : coordBefore k c := by
  obtain ⟨cx, cy⟩ := c; obtain ⟨kx, ky⟩ := k
  simp only [coordBefore, ne_eq, Coord.mk.injEq, not_and] at *; omega

theorem memSorted_tail {e : Coord × Int} {m : Memory} (h : memSorted (e :: m) = true) : memSorted m = true := by
  cases m with
  | nil => rfl
  | cons f m => simp only [memSorted, Bool.and_eq_true] at h; exact h.2

/-- Every coordinate behind the first entry of a sorted store comes after it. -/
theorem memSorted_head {e : Coord × Int} {m : Memory} (h : memSorted (e :: m) = true) :
    ∀ f ∈ m, coordBefore e.1 f.1 := by
  induction m generalizing e with
  | nil => simp
  | cons g m ih =>
    simp only [memSorted, Bool.and_eq_true, decide_eq_true_eq] at h
    intro f hf
    rcases List.mem_cons.1 hf with rfl | hf
    · exact h.1
    · exact coordBefore_trans h.1 (ih h.2 f hf)

/-- A sorted store: its tail is sorted and lies behind its head. -/
theorem memSorted_cons {e : Coord × Int} {m : Memory} :
    memSorted (e :: m) = true ↔ (∀ f ∈ m, coordBefore e.1 f.1) ∧ memSorted m = true := by
  refine ⟨fun h => ⟨memSorted_head h, memSorted_tail h⟩, fun ⟨h₁, h₂⟩ => ?_⟩
  cases m with
  | nil => rfl
  | cons f m => simp [memSorted, h₁ f (by simp), h₂]

theorem memRead_eq_unlisted {c : Coord} {m : Memory} (h : ∀ e ∈ m, e.1 ≠ c) : memRead c m = unlistedCell := by
  induction m with
  | nil => rfl
  | cons e m ih =>
    have := h e (by simp)
    simp [memRead, Ne.symm this, ih fun f hf => h f (by simp [hf])]

/-- A read after a write of the same cell gives the value written. -/
theorem memRead_memWrite_eq (c : Coord) (v : Int) (m : Memory) (h : memSorted m = true) :
    memRead c (memWrite c v m) = v := by
  induction m with
  | nil => by_cases hv : v = unlistedCell <;> simp [memWrite, memRead, hv]
  | cons e m ih =>
    obtain ⟨k, w⟩ := e
    have hh := memSorted_head h
    by_cases hk : c = k
    · subst hk
      by_cases hv : v = unlistedCell
      · simp only [memWrite, hv, if_true]
        exact memRead_eq_unlisted fun f hf he => coordBefore_irrefl c (by simpa [he] using hh f hf)
      · simp [memWrite, memRead, hv]
    · by_cases hb : coordBefore c k
      · by_cases hv : v = unlistedCell
        · have : memRead c m = unlistedCell := memRead_eq_unlisted fun f hf he =>
            coordBefore_irrefl c (coordBefore_trans hb (by simpa [he] using hh f hf))
          simp [memWrite, memRead, hv, hk, hb, this]
        · simp [memWrite, memRead, hv, hk, hb]
      · simp [memWrite, memRead, hk, hb, ih (memSorted_tail h)]

/-- An entry after a write is the one written or was there before. -/
theorem mem_memWrite {c : Coord} {v : Int} {m : Memory} {e : Coord × Int} (h : e ∈ memWrite c v m) :
    (e = (c, v) ∧ v ≠ unlistedCell) ∨ e ∈ m := by
  induction m with
  | nil => by_cases hv : v = unlistedCell <;> simp_all [memWrite]
  | cons f m ih =>
    obtain ⟨k, w⟩ := f
    simp only [memWrite] at h
    split_ifs at h <;> simp only [List.mem_cons] at h ⊢
    · exact .inr (.inr h)
    · rcases h with h | h
      · exact .inl ⟨h, ‹_›⟩
      · exact .inr (.inr h)
    · exact .inr h
    · rcases h with h | h
      · exact .inl ⟨h, ‹_›⟩
      · exact .inr h
    · rcases h with h | h
      · exact .inr (.inl h)
      · exact (ih h).imp_right .inr

theorem memSorted_memWrite (c : Coord) (v : Int) (m : Memory) (h : memSorted m = true) :
    memSorted (memWrite c v m) = true := by
  induction m with
  | nil => by_cases hv : v = unlistedCell <;> simp [memWrite, memSorted, hv]
  | cons f m ih =>
    obtain ⟨k, w⟩ := f
    have hc := memSorted_cons.1 h
    simp only [memWrite]
    split_ifs with hk hv hb hv
    · exact hc.2
    · subst hk; exact memSorted_cons.2 hc
    · exact h
    · refine memSorted_cons.2 ⟨fun f hf => ?_, h⟩
      rcases List.mem_cons.1 hf with rfl | hf
      · exact hb
      · exact coordBefore_trans hb (hc.1 f hf)
    · refine memSorted_cons.2 ⟨fun f hf => ?_, ih hc.2⟩
      rcases mem_memWrite hf with ⟨rfl, -⟩ | hf
      · exact coordBefore_of_not hk hb
      · exact hc.1 f hf

/-- The canonical form, clause by clause. -/
theorem Memory.wf_iff {gw gh : Nat} {m : Memory} :
    Memory.wf gw gh m = true ↔ memSorted m = true ∧ (∀ e ∈ m, e.2 ≠ unlistedCell) ∧
      (∀ e ∈ m, 0 ≤ e.1.x ∧ e.1.x < gw ∧ 0 ≤ e.1.y ∧ e.1.y < gh) := by
  simp only [Memory.wf, Bool.and_eq_true, List.all_eq_true, decide_eq_true_eq, and_assoc]

/-- A write inside the grid keeps the canonical form. -/
theorem memWrite_wf {gw gh : Nat} {m : Memory} {c : Coord} {v : Int} (h : Memory.wf gw gh m = true)
    (hc : 0 ≤ c.x ∧ c.x < gw ∧ 0 ≤ c.y ∧ c.y < gh) : Memory.wf gw gh (memWrite c v m) = true := by
  obtain ⟨h₁, h₂, h₃⟩ := Memory.wf_iff.1 h
  refine Memory.wf_iff.2 ⟨memSorted_memWrite c v m h₁, fun e he => ?_, fun e he => ?_⟩
  · rcases mem_memWrite he with ⟨rfl, hv⟩ | he
    · exact hv
    · exact h₂ e he
  · rcases mem_memWrite he with ⟨rfl, -⟩ | he
    · exact hc
    · exact h₃ e he

/-- The store of the reset state has the canonical form. -/
theorem reset_grid_wf : Memory.wf State.reset.gw State.reset.gh State.reset.grid = true := by decide

/-- What a write inside the grid makes of a read (20_memory.md R72, R73). -/
theorem gridRead_withCell (s : State) (c d : Coord) (v : Int) (hs : memSorted s.grid = true) (hc : s.InBounds c) :
    (s.withCell c v).gridRead d = if d = c then v else s.gridRead d := by
  by_cases h : d = c
  · subst h
    have : (s.withCell d v).InBounds d := hc
    simp only [State.gridRead, if_pos this, if_true]
    exact memRead_memWrite_eq d v s.grid hs
  · have : (s.withCell c v).InBounds d ↔ s.InBounds d := Iff.rfl
    by_cases hb : s.InBounds d
    · simp only [State.gridRead, if_pos hb, if_pos (this.2 hb), if_neg h]
      exact memRead_memWrite_ne c d v s.grid h
    · simp only [State.gridRead, if_neg hb, if_neg (fun x => hb (this.1 x)), if_neg h]

end Sys2Proof.Machine
end

