-- ==== Sys2Proof/Laws/State.lean ====
section
/-! SUPPORT. What each update of the state leaves in each field: one lemma per field and update. -/

namespace Sys2Proof.Machine

@[simp] theorem State.raised_gw (s : State) (code : FaultCode) : (s.raised code).gw = s.gw := rfl
@[simp] theorem State.raised_gh (s : State) (code : FaultCode) : (s.raised code).gh = s.gh := rfl
@[simp] theorem State.raised_grid (s : State) (code : FaultCode) : (s.raised code).grid = s.grid := rfl
@[simp] theorem State.raised_ip (s : State) (code : FaultCode) : (s.raised code).ip = s.ip := rfl
@[simp] theorem State.raised_dir (s : State) (code : FaultCode) : (s.raised code).dir = s.dir := rfl
@[simp] theorem State.raised_stack (s : State) (code : FaultCode) : (s.raised code).stack = s.stack := rfl
@[simp] theorem State.raised_faces (s : State) (code : FaultCode) : (s.raised code).faces = s.faces := rfl
@[simp] theorem State.raised_idx (s : State) (code : FaultCode) : (s.raised code).idx = s.idx := rfl
@[simp] theorem State.raised_cmode (s : State) (code : FaultCode) : (s.raised code).cmode = s.cmode := rfl
@[simp] theorem State.raised_icoPos (s : State) (code : FaultCode) : (s.raised code).icoPos = s.icoPos := rfl
@[simp] theorem State.raised_stringMode (s : State) (code : FaultCode) : (s.raised code).stringMode = s.stringMode := rfl
@[simp] theorem State.raised_strafePending (s : State) (code : FaultCode) : (s.raised code).strafePending = s.strafePending := rfl
@[simp] theorem State.raised_jumpValid (s : State) (code : FaultCode) : (s.raised code).jumpValid = s.jumpValid := rfl
@[simp] theorem State.raised_jumpTarget (s : State) (code : FaultCode) : (s.raised code).jumpTarget = s.jumpTarget := rfl
@[simp] theorem State.raised_iter (s : State) (code : FaultCode) : (s.raised code).iter = s.iter := rfl
@[simp] theorem State.raised_pushback (s : State) (code : FaultCode) : (s.raised code).pushback = s.pushback := rfl
@[simp] theorem State.raised_tick (s : State) (code : FaultCode) : (s.raised code).tick = s.tick := rfl
@[simp] theorem State.raised_runState (s : State) (code : FaultCode) : (s.raised code).runState = .faulted := rfl
@[simp] theorem State.raised_faultCode (s : State) (code : FaultCode) : (s.raised code).faultCode = code := rfl
@[simp] theorem State.raised_maxTicks (s : State) (code : FaultCode) : (s.raised code).maxTicks = s.maxTicks := rfl
@[simp] theorem State.raised_debugLevel (s : State) (code : FaultCode) : (s.raised code).debugLevel = s.debugLevel := rfl
@[simp] theorem State.raised_params (s : State) (code : FaultCode) : (s.raised code).params = s.params := rfl
@[simp] theorem State.raised_input (s : State) (code : FaultCode) : (s.raised code).input = s.input := rfl
@[simp] theorem State.raised_output (s : State) (code : FaultCode) : (s.raised code).output = s.output := rfl
@[simp] theorem State.raised_draws (s : State) (code : FaultCode) : (s.raised code).draws = s.draws := rfl
@[simp] theorem State.raised_strobes (s : State) (code : FaultCode) : (s.raised code).strobes = s.strobes := rfl
@[simp] theorem State.raised_freeDraws (s : State) (code : FaultCode) : (s.raised code).freeDraws = s.freeDraws := rfl

@[simp] theorem State.withCell_gw (s : State) (c : Coord) (v : Int) : (s.withCell c v).gw = s.gw := rfl
@[simp] theorem State.withCell_gh (s : State) (c : Coord) (v : Int) : (s.withCell c v).gh = s.gh := rfl
@[simp] theorem State.withCell_grid (s : State) (c : Coord) (v : Int) : (s.withCell c v).grid = memWrite c v s.grid := rfl
@[simp] theorem State.withCell_ip (s : State) (c : Coord) (v : Int) : (s.withCell c v).ip = s.ip := rfl
@[simp] theorem State.withCell_dir (s : State) (c : Coord) (v : Int) : (s.withCell c v).dir = s.dir := rfl
@[simp] theorem State.withCell_stack (s : State) (c : Coord) (v : Int) : (s.withCell c v).stack = s.stack := rfl
@[simp] theorem State.withCell_faces (s : State) (c : Coord) (v : Int) : (s.withCell c v).faces = s.faces := rfl
@[simp] theorem State.withCell_idx (s : State) (c : Coord) (v : Int) : (s.withCell c v).idx = s.idx := rfl
@[simp] theorem State.withCell_cmode (s : State) (c : Coord) (v : Int) : (s.withCell c v).cmode = s.cmode := rfl
@[simp] theorem State.withCell_icoPos (s : State) (c : Coord) (v : Int) : (s.withCell c v).icoPos = s.icoPos := rfl
@[simp] theorem State.withCell_stringMode (s : State) (c : Coord) (v : Int) : (s.withCell c v).stringMode = s.stringMode := rfl
@[simp] theorem State.withCell_strafePending (s : State) (c : Coord) (v : Int) : (s.withCell c v).strafePending = s.strafePending := rfl
@[simp] theorem State.withCell_jumpValid (s : State) (c : Coord) (v : Int) : (s.withCell c v).jumpValid = s.jumpValid := rfl
@[simp] theorem State.withCell_jumpTarget (s : State) (c : Coord) (v : Int) : (s.withCell c v).jumpTarget = s.jumpTarget := rfl
@[simp] theorem State.withCell_iter (s : State) (c : Coord) (v : Int) : (s.withCell c v).iter = s.iter := rfl
@[simp] theorem State.withCell_pushback (s : State) (c : Coord) (v : Int) : (s.withCell c v).pushback = s.pushback := rfl
@[simp] theorem State.withCell_tick (s : State) (c : Coord) (v : Int) : (s.withCell c v).tick = s.tick := rfl
@[simp] theorem State.withCell_runState (s : State) (c : Coord) (v : Int) : (s.withCell c v).runState = s.runState := rfl
@[simp] theorem State.withCell_faultCode (s : State) (c : Coord) (v : Int) : (s.withCell c v).faultCode = s.faultCode := rfl
@[simp] theorem State.withCell_maxTicks (s : State) (c : Coord) (v : Int) : (s.withCell c v).maxTicks = s.maxTicks := rfl
@[simp] theorem State.withCell_debugLevel (s : State) (c : Coord) (v : Int) : (s.withCell c v).debugLevel = s.debugLevel := rfl
@[simp] theorem State.withCell_params (s : State) (c : Coord) (v : Int) : (s.withCell c v).params = s.params := rfl
@[simp] theorem State.withCell_input (s : State) (c : Coord) (v : Int) : (s.withCell c v).input = s.input := rfl
@[simp] theorem State.withCell_output (s : State) (c : Coord) (v : Int) : (s.withCell c v).output = s.output := rfl
@[simp] theorem State.withCell_draws (s : State) (c : Coord) (v : Int) : (s.withCell c v).draws = s.draws := rfl
@[simp] theorem State.withCell_strobes (s : State) (c : Coord) (v : Int) : (s.withCell c v).strobes = s.strobes := rfl
@[simp] theorem State.withCell_freeDraws (s : State) (c : Coord) (v : Int) : (s.withCell c v).freeDraws = s.freeDraws := rfl

@[simp] theorem State.popped_gw (s : State) : (s.popped).gw = s.gw := rfl
@[simp] theorem State.popped_gh (s : State) : (s.popped).gh = s.gh := rfl
@[simp] theorem State.popped_grid (s : State) : (s.popped).grid = s.grid := rfl
@[simp] theorem State.popped_ip (s : State) : (s.popped).ip = s.ip := rfl
@[simp] theorem State.popped_dir (s : State) : (s.popped).dir = s.dir := rfl
@[simp] theorem State.popped_stack (s : State) : (s.popped).stack = s.stack.tail := rfl
@[simp] theorem State.popped_faces (s : State) : (s.popped).faces = s.faces := rfl
@[simp] theorem State.popped_idx (s : State) : (s.popped).idx = s.idx := rfl
@[simp] theorem State.popped_cmode (s : State) : (s.popped).cmode = s.cmode := rfl
@[simp] theorem State.popped_icoPos (s : State) : (s.popped).icoPos = s.icoPos := rfl
@[simp] theorem State.popped_stringMode (s : State) : (s.popped).stringMode = s.stringMode := rfl
@[simp] theorem State.popped_strafePending (s : State) : (s.popped).strafePending = s.strafePending := rfl
@[simp] theorem State.popped_jumpValid (s : State) : (s.popped).jumpValid = s.jumpValid := rfl
@[simp] theorem State.popped_jumpTarget (s : State) : (s.popped).jumpTarget = s.jumpTarget := rfl
@[simp] theorem State.popped_iter (s : State) : (s.popped).iter = s.iter := rfl
@[simp] theorem State.popped_pushback (s : State) : (s.popped).pushback = s.pushback := rfl
@[simp] theorem State.popped_tick (s : State) : (s.popped).tick = s.tick := rfl
@[simp] theorem State.popped_runState (s : State) : (s.popped).runState = s.runState := rfl
@[simp] theorem State.popped_faultCode (s : State) : (s.popped).faultCode = s.faultCode := rfl
@[simp] theorem State.popped_maxTicks (s : State) : (s.popped).maxTicks = s.maxTicks := rfl
@[simp] theorem State.popped_debugLevel (s : State) : (s.popped).debugLevel = s.debugLevel := rfl
@[simp] theorem State.popped_params (s : State) : (s.popped).params = s.params := rfl
@[simp] theorem State.popped_input (s : State) : (s.popped).input = s.input := rfl
@[simp] theorem State.popped_output (s : State) : (s.popped).output = s.output := rfl
@[simp] theorem State.popped_draws (s : State) : (s.popped).draws = s.draws := rfl
@[simp] theorem State.popped_strobes (s : State) : (s.popped).strobes = s.strobes := rfl
@[simp] theorem State.popped_freeDraws (s : State) : (s.popped).freeDraws = s.freeDraws := rfl

@[simp] theorem State.pushed_gw (s : State) (v : Int) : (s.pushed v).gw = s.gw := rfl
@[simp] theorem State.pushed_gh (s : State) (v : Int) : (s.pushed v).gh = s.gh := rfl
@[simp] theorem State.pushed_grid (s : State) (v : Int) : (s.pushed v).grid = s.grid := rfl
@[simp] theorem State.pushed_ip (s : State) (v : Int) : (s.pushed v).ip = s.ip := rfl
@[simp] theorem State.pushed_dir (s : State) (v : Int) : (s.pushed v).dir = s.dir := rfl
@[simp] theorem State.pushed_stack (s : State) (v : Int) : (s.pushed v).stack = v :: s.stack := rfl
@[simp] theorem State.pushed_faces (s : State) (v : Int) : (s.pushed v).faces = s.faces := rfl
@[simp] theorem State.pushed_idx (s : State) (v : Int) : (s.pushed v).idx = s.idx := rfl
@[simp] theorem State.pushed_cmode (s : State) (v : Int) : (s.pushed v).cmode = s.cmode := rfl
@[simp] theorem State.pushed_icoPos (s : State) (v : Int) : (s.pushed v).icoPos = s.icoPos := rfl
@[simp] theorem State.pushed_stringMode (s : State) (v : Int) : (s.pushed v).stringMode = s.stringMode := rfl
@[simp] theorem State.pushed_strafePending (s : State) (v : Int) : (s.pushed v).strafePending = s.strafePending := rfl
@[simp] theorem State.pushed_jumpValid (s : State) (v : Int) : (s.pushed v).jumpValid = s.jumpValid := rfl
@[simp] theorem State.pushed_jumpTarget (s : State) (v : Int) : (s.pushed v).jumpTarget = s.jumpTarget := rfl
@[simp] theorem State.pushed_iter (s : State) (v : Int) : (s.pushed v).iter = s.iter := rfl
@[simp] theorem State.pushed_pushback (s : State) (v : Int) : (s.pushed v).pushback = s.pushback := rfl
@[simp] theorem State.pushed_tick (s : State) (v : Int) : (s.pushed v).tick = s.tick := rfl
@[simp] theorem State.pushed_runState (s : State) (v : Int) : (s.pushed v).runState = s.runState := rfl
@[simp] theorem State.pushed_faultCode (s : State) (v : Int) : (s.pushed v).faultCode = s.faultCode := rfl
@[simp] theorem State.pushed_maxTicks (s : State) (v : Int) : (s.pushed v).maxTicks = s.maxTicks := rfl
@[simp] theorem State.pushed_debugLevel (s : State) (v : Int) : (s.pushed v).debugLevel = s.debugLevel := rfl
@[simp] theorem State.pushed_params (s : State) (v : Int) : (s.pushed v).params = s.params := rfl
@[simp] theorem State.pushed_input (s : State) (v : Int) : (s.pushed v).input = s.input := rfl
@[simp] theorem State.pushed_output (s : State) (v : Int) : (s.pushed v).output = s.output := rfl
@[simp] theorem State.pushed_draws (s : State) (v : Int) : (s.pushed v).draws = s.draws := rfl
@[simp] theorem State.pushed_strobes (s : State) (v : Int) : (s.pushed v).strobes = s.strobes := rfl
@[simp] theorem State.pushed_freeDraws (s : State) (v : Int) : (s.pushed v).freeDraws = s.freeDraws := rfl

@[simp] theorem State.faceWrite_gw (s : State) (i : Fin 20) (v : Int) : (s.faceWrite i v).gw = s.gw := rfl
@[simp] theorem State.faceWrite_gh (s : State) (i : Fin 20) (v : Int) : (s.faceWrite i v).gh = s.gh := rfl
@[simp] theorem State.faceWrite_grid (s : State) (i : Fin 20) (v : Int) : (s.faceWrite i v).grid = s.grid := rfl
@[simp] theorem State.faceWrite_ip (s : State) (i : Fin 20) (v : Int) : (s.faceWrite i v).ip = s.ip := rfl
@[simp] theorem State.faceWrite_dir (s : State) (i : Fin 20) (v : Int) : (s.faceWrite i v).dir = s.dir := rfl
@[simp] theorem State.faceWrite_stack (s : State) (i : Fin 20) (v : Int) : (s.faceWrite i v).stack = s.stack := rfl
@[simp] theorem State.faceWrite_faces (s : State) (i : Fin 20) (v : Int) : (s.faceWrite i v).faces = s.faces.set i v := rfl
@[simp] theorem State.faceWrite_idx (s : State) (i : Fin 20) (v : Int) : (s.faceWrite i v).idx = s.idx := rfl
@[simp] theorem State.faceWrite_cmode (s : State) (i : Fin 20) (v : Int) : (s.faceWrite i v).cmode = s.cmode := rfl
@[simp] theorem State.faceWrite_icoPos (s : State) (i : Fin 20) (v : Int) : (s.faceWrite i v).icoPos = s.icoPos := rfl
@[simp] theorem State.faceWrite_stringMode (s : State) (i : Fin 20) (v : Int) : (s.faceWrite i v).stringMode = s.stringMode := rfl
@[simp] theorem State.faceWrite_strafePending (s : State) (i : Fin 20) (v : Int) : (s.faceWrite i v).strafePending = s.strafePending := rfl
@[simp] theorem State.faceWrite_jumpValid (s : State) (i : Fin 20) (v : Int) : (s.faceWrite i v).jumpValid = s.jumpValid := rfl
@[simp] theorem State.faceWrite_jumpTarget (s : State) (i : Fin 20) (v : Int) : (s.faceWrite i v).jumpTarget = s.jumpTarget := rfl
@[simp] theorem State.faceWrite_iter (s : State) (i : Fin 20) (v : Int) : (s.faceWrite i v).iter = s.iter := rfl
@[simp] theorem State.faceWrite_pushback (s : State) (i : Fin 20) (v : Int) : (s.faceWrite i v).pushback = s.pushback := rfl
@[simp] theorem State.faceWrite_tick (s : State) (i : Fin 20) (v : Int) : (s.faceWrite i v).tick = s.tick := rfl
@[simp] theorem State.faceWrite_runState (s : State) (i : Fin 20) (v : Int) : (s.faceWrite i v).runState = s.runState := rfl
@[simp] theorem State.faceWrite_faultCode (s : State) (i : Fin 20) (v : Int) : (s.faceWrite i v).faultCode = s.faultCode := rfl
@[simp] theorem State.faceWrite_maxTicks (s : State) (i : Fin 20) (v : Int) : (s.faceWrite i v).maxTicks = s.maxTicks := rfl
@[simp] theorem State.faceWrite_debugLevel (s : State) (i : Fin 20) (v : Int) : (s.faceWrite i v).debugLevel = s.debugLevel := rfl
@[simp] theorem State.faceWrite_params (s : State) (i : Fin 20) (v : Int) : (s.faceWrite i v).params = s.params := rfl
@[simp] theorem State.faceWrite_input (s : State) (i : Fin 20) (v : Int) : (s.faceWrite i v).input = s.input := rfl
@[simp] theorem State.faceWrite_output (s : State) (i : Fin 20) (v : Int) : (s.faceWrite i v).output = s.output := rfl
@[simp] theorem State.faceWrite_draws (s : State) (i : Fin 20) (v : Int) : (s.faceWrite i v).draws = s.draws := rfl
@[simp] theorem State.faceWrite_strobes (s : State) (i : Fin 20) (v : Int) : (s.faceWrite i v).strobes = s.strobes := rfl
@[simp] theorem State.faceWrite_freeDraws (s : State) (i : Fin 20) (v : Int) : (s.faceWrite i v).freeDraws = s.freeDraws := rfl

@[simp] theorem State.icoStore_gw (s : State) (v : Int) : (s.icoStore v).gw = s.gw := rfl
@[simp] theorem State.icoStore_gh (s : State) (v : Int) : (s.icoStore v).gh = s.gh := rfl
@[simp] theorem State.icoStore_grid (s : State) (v : Int) : (s.icoStore v).grid = s.grid := rfl
@[simp] theorem State.icoStore_ip (s : State) (v : Int) : (s.icoStore v).ip = s.ip := rfl
@[simp] theorem State.icoStore_dir (s : State) (v : Int) : (s.icoStore v).dir = s.dir := rfl
@[simp] theorem State.icoStore_stack (s : State) (v : Int) : (s.icoStore v).stack = s.stack := rfl
@[simp] theorem State.icoStore_faces (s : State) (v : Int) : (s.icoStore v).faces = s.faces.set s.idx[0] v := rfl
@[simp] theorem State.icoStore_idx (s : State) (v : Int) : (s.icoStore v).idx = s.idx := rfl
@[simp] theorem State.icoStore_cmode (s : State) (v : Int) : (s.icoStore v).cmode = s.cmode := rfl
@[simp] theorem State.icoStore_icoPos (s : State) (v : Int) : (s.icoStore v).icoPos = s.icoPos := rfl
@[simp] theorem State.icoStore_stringMode (s : State) (v : Int) : (s.icoStore v).stringMode = s.stringMode := rfl
@[simp] theorem State.icoStore_strafePending (s : State) (v : Int) : (s.icoStore v).strafePending = s.strafePending := rfl
@[simp] theorem State.icoStore_jumpValid (s : State) (v : Int) : (s.icoStore v).jumpValid = s.jumpValid := rfl
@[simp] theorem State.icoStore_jumpTarget (s : State) (v : Int) : (s.icoStore v).jumpTarget = s.jumpTarget := rfl
@[simp] theorem State.icoStore_iter (s : State) (v : Int) : (s.icoStore v).iter = s.iter := rfl
@[simp] theorem State.icoStore_pushback (s : State) (v : Int) : (s.icoStore v).pushback = s.pushback := rfl
@[simp] theorem State.icoStore_tick (s : State) (v : Int) : (s.icoStore v).tick = s.tick := rfl
@[simp] theorem State.icoStore_runState (s : State) (v : Int) : (s.icoStore v).runState = s.runState := rfl
@[simp] theorem State.icoStore_faultCode (s : State) (v : Int) : (s.icoStore v).faultCode = s.faultCode := rfl
@[simp] theorem State.icoStore_maxTicks (s : State) (v : Int) : (s.icoStore v).maxTicks = s.maxTicks := rfl
@[simp] theorem State.icoStore_debugLevel (s : State) (v : Int) : (s.icoStore v).debugLevel = s.debugLevel := rfl
@[simp] theorem State.icoStore_params (s : State) (v : Int) : (s.icoStore v).params = s.params := rfl
@[simp] theorem State.icoStore_input (s : State) (v : Int) : (s.icoStore v).input = s.input := rfl
@[simp] theorem State.icoStore_output (s : State) (v : Int) : (s.icoStore v).output = s.output := rfl
@[simp] theorem State.icoStore_draws (s : State) (v : Int) : (s.icoStore v).draws = s.draws := rfl
@[simp] theorem State.icoStore_strobes (s : State) (v : Int) : (s.icoStore v).strobes = s.strobes := rfl
@[simp] theorem State.icoStore_freeDraws (s : State) (v : Int) : (s.icoStore v).freeDraws = s.freeDraws := rfl

@[simp] theorem State.permuted_gw (s : State) (p : PermTable) : (s.permuted p).gw = s.gw := rfl
@[simp] theorem State.permuted_gh (s : State) (p : PermTable) : (s.permuted p).gh = s.gh := rfl
@[simp] theorem State.permuted_grid (s : State) (p : PermTable) : (s.permuted p).grid = s.grid := rfl
@[simp] theorem State.permuted_ip (s : State) (p : PermTable) : (s.permuted p).ip = s.ip := rfl
@[simp] theorem State.permuted_dir (s : State) (p : PermTable) : (s.permuted p).dir = s.dir := rfl
@[simp] theorem State.permuted_stack (s : State) (p : PermTable) : (s.permuted p).stack = s.stack := rfl
@[simp] theorem State.permuted_faces (s : State) (p : PermTable) : (s.permuted p).faces = s.faces := rfl
@[simp] theorem State.permuted_idx (s : State) (p : PermTable) : (s.permuted p).idx = permute p s.idx := rfl
@[simp] theorem State.permuted_cmode (s : State) (p : PermTable) : (s.permuted p).cmode = s.cmode := rfl
@[simp] theorem State.permuted_icoPos (s : State) (p : PermTable) : (s.permuted p).icoPos = s.icoPos := rfl
@[simp] theorem State.permuted_stringMode (s : State) (p : PermTable) : (s.permuted p).stringMode = s.stringMode := rfl
@[simp] theorem State.permuted_strafePending (s : State) (p : PermTable) : (s.permuted p).strafePending = s.strafePending := rfl
@[simp] theorem State.permuted_jumpValid (s : State) (p : PermTable) : (s.permuted p).jumpValid = s.jumpValid := rfl
@[simp] theorem State.permuted_jumpTarget (s : State) (p : PermTable) : (s.permuted p).jumpTarget = s.jumpTarget := rfl
@[simp] theorem State.permuted_iter (s : State) (p : PermTable) : (s.permuted p).iter = s.iter := rfl
@[simp] theorem State.permuted_pushback (s : State) (p : PermTable) : (s.permuted p).pushback = s.pushback := rfl
@[simp] theorem State.permuted_tick (s : State) (p : PermTable) : (s.permuted p).tick = s.tick := rfl
@[simp] theorem State.permuted_runState (s : State) (p : PermTable) : (s.permuted p).runState = s.runState := rfl
@[simp] theorem State.permuted_faultCode (s : State) (p : PermTable) : (s.permuted p).faultCode = s.faultCode := rfl
@[simp] theorem State.permuted_maxTicks (s : State) (p : PermTable) : (s.permuted p).maxTicks = s.maxTicks := rfl
@[simp] theorem State.permuted_debugLevel (s : State) (p : PermTable) : (s.permuted p).debugLevel = s.debugLevel := rfl
@[simp] theorem State.permuted_params (s : State) (p : PermTable) : (s.permuted p).params = s.params := rfl
@[simp] theorem State.permuted_input (s : State) (p : PermTable) : (s.permuted p).input = s.input := rfl
@[simp] theorem State.permuted_output (s : State) (p : PermTable) : (s.permuted p).output = s.output := rfl
@[simp] theorem State.permuted_draws (s : State) (p : PermTable) : (s.permuted p).draws = s.draws := rfl
@[simp] theorem State.permuted_strobes (s : State) (p : PermTable) : (s.permuted p).strobes = s.strobes := rfl
@[simp] theorem State.permuted_freeDraws (s : State) (p : PermTable) : (s.permuted p).freeDraws = s.freeDraws := rfl

@[simp] theorem State.setDir_gw (s : State) (d : Dir) : (s.setDir d).gw = s.gw := rfl
@[simp] theorem State.setDir_gh (s : State) (d : Dir) : (s.setDir d).gh = s.gh := rfl
@[simp] theorem State.setDir_grid (s : State) (d : Dir) : (s.setDir d).grid = s.grid := rfl
@[simp] theorem State.setDir_ip (s : State) (d : Dir) : (s.setDir d).ip = s.ip := rfl
@[simp] theorem State.setDir_dir (s : State) (d : Dir) : (s.setDir d).dir = d := rfl
@[simp] theorem State.setDir_stack (s : State) (d : Dir) : (s.setDir d).stack = s.stack := rfl
@[simp] theorem State.setDir_faces (s : State) (d : Dir) : (s.setDir d).faces = s.faces := rfl
@[simp] theorem State.setDir_idx (s : State) (d : Dir) : (s.setDir d).idx = s.idx := rfl
@[simp] theorem State.setDir_cmode (s : State) (d : Dir) : (s.setDir d).cmode = s.cmode := rfl
@[simp] theorem State.setDir_icoPos (s : State) (d : Dir) : (s.setDir d).icoPos = s.icoPos := rfl
@[simp] theorem State.setDir_stringMode (s : State) (d : Dir) : (s.setDir d).stringMode = s.stringMode := rfl
@[simp] theorem State.setDir_strafePending (s : State) (d : Dir) : (s.setDir d).strafePending = s.strafePending := rfl
@[simp] theorem State.setDir_jumpValid (s : State) (d : Dir) : (s.setDir d).jumpValid = s.jumpValid := rfl
@[simp] theorem State.setDir_jumpTarget (s : State) (d : Dir) : (s.setDir d).jumpTarget = s.jumpTarget := rfl
@[simp] theorem State.setDir_iter (s : State) (d : Dir) : (s.setDir d).iter = s.iter := rfl
@[simp] theorem State.setDir_pushback (s : State) (d : Dir) : (s.setDir d).pushback = s.pushback := rfl
@[simp] theorem State.setDir_tick (s : State) (d : Dir) : (s.setDir d).tick = s.tick := rfl
@[simp] theorem State.setDir_runState (s : State) (d : Dir) : (s.setDir d).runState = s.runState := rfl
@[simp] theorem State.setDir_faultCode (s : State) (d : Dir) : (s.setDir d).faultCode = s.faultCode := rfl
@[simp] theorem State.setDir_maxTicks (s : State) (d : Dir) : (s.setDir d).maxTicks = s.maxTicks := rfl
@[simp] theorem State.setDir_debugLevel (s : State) (d : Dir) : (s.setDir d).debugLevel = s.debugLevel := rfl
@[simp] theorem State.setDir_params (s : State) (d : Dir) : (s.setDir d).params = s.params := rfl
@[simp] theorem State.setDir_input (s : State) (d : Dir) : (s.setDir d).input = s.input := rfl
@[simp] theorem State.setDir_output (s : State) (d : Dir) : (s.setDir d).output = s.output := rfl
@[simp] theorem State.setDir_draws (s : State) (d : Dir) : (s.setDir d).draws = s.draws := rfl
@[simp] theorem State.setDir_strobes (s : State) (d : Dir) : (s.setDir d).strobes = s.strobes := rfl
@[simp] theorem State.setDir_freeDraws (s : State) (d : Dir) : (s.setDir d).freeDraws = s.freeDraws := rfl

@[simp] theorem State.setIter_gw (s : State) (k : Nat) : (s.setIter k).gw = s.gw := rfl
@[simp] theorem State.setIter_gh (s : State) (k : Nat) : (s.setIter k).gh = s.gh := rfl
@[simp] theorem State.setIter_grid (s : State) (k : Nat) : (s.setIter k).grid = s.grid := rfl
@[simp] theorem State.setIter_ip (s : State) (k : Nat) : (s.setIter k).ip = s.ip := rfl
@[simp] theorem State.setIter_dir (s : State) (k : Nat) : (s.setIter k).dir = s.dir := rfl
@[simp] theorem State.setIter_stack (s : State) (k : Nat) : (s.setIter k).stack = s.stack := rfl
@[simp] theorem State.setIter_faces (s : State) (k : Nat) : (s.setIter k).faces = s.faces := rfl
@[simp] theorem State.setIter_idx (s : State) (k : Nat) : (s.setIter k).idx = s.idx := rfl
@[simp] theorem State.setIter_cmode (s : State) (k : Nat) : (s.setIter k).cmode = s.cmode := rfl
@[simp] theorem State.setIter_icoPos (s : State) (k : Nat) : (s.setIter k).icoPos = s.icoPos := rfl
@[simp] theorem State.setIter_stringMode (s : State) (k : Nat) : (s.setIter k).stringMode = s.stringMode := rfl
@[simp] theorem State.setIter_strafePending (s : State) (k : Nat) : (s.setIter k).strafePending = s.strafePending := rfl
@[simp] theorem State.setIter_jumpValid (s : State) (k : Nat) : (s.setIter k).jumpValid = s.jumpValid := rfl
@[simp] theorem State.setIter_jumpTarget (s : State) (k : Nat) : (s.setIter k).jumpTarget = s.jumpTarget := rfl
@[simp] theorem State.setIter_iter (s : State) (k : Nat) : (s.setIter k).iter = k := rfl
@[simp] theorem State.setIter_pushback (s : State) (k : Nat) : (s.setIter k).pushback = s.pushback := rfl
@[simp] theorem State.setIter_tick (s : State) (k : Nat) : (s.setIter k).tick = s.tick := rfl
@[simp] theorem State.setIter_runState (s : State) (k : Nat) : (s.setIter k).runState = s.runState := rfl
@[simp] theorem State.setIter_faultCode (s : State) (k : Nat) : (s.setIter k).faultCode = s.faultCode := rfl
@[simp] theorem State.setIter_maxTicks (s : State) (k : Nat) : (s.setIter k).maxTicks = s.maxTicks := rfl
@[simp] theorem State.setIter_debugLevel (s : State) (k : Nat) : (s.setIter k).debugLevel = s.debugLevel := rfl
@[simp] theorem State.setIter_params (s : State) (k : Nat) : (s.setIter k).params = s.params := rfl
@[simp] theorem State.setIter_input (s : State) (k : Nat) : (s.setIter k).input = s.input := rfl
@[simp] theorem State.setIter_output (s : State) (k : Nat) : (s.setIter k).output = s.output := rfl
@[simp] theorem State.setIter_draws (s : State) (k : Nat) : (s.setIter k).draws = s.draws := rfl
@[simp] theorem State.setIter_strobes (s : State) (k : Nat) : (s.setIter k).strobes = s.strobes := rfl
@[simp] theorem State.setIter_freeDraws (s : State) (k : Nat) : (s.setIter k).freeDraws = s.freeDraws := rfl

@[simp] theorem State.setJump_gw (s : State) (c : Coord) : (s.setJump c).gw = s.gw := rfl
@[simp] theorem State.setJump_gh (s : State) (c : Coord) : (s.setJump c).gh = s.gh := rfl
@[simp] theorem State.setJump_grid (s : State) (c : Coord) : (s.setJump c).grid = s.grid := rfl
@[simp] theorem State.setJump_ip (s : State) (c : Coord) : (s.setJump c).ip = s.ip := rfl
@[simp] theorem State.setJump_dir (s : State) (c : Coord) : (s.setJump c).dir = s.dir := rfl
@[simp] theorem State.setJump_stack (s : State) (c : Coord) : (s.setJump c).stack = s.stack := rfl
@[simp] theorem State.setJump_faces (s : State) (c : Coord) : (s.setJump c).faces = s.faces := rfl
@[simp] theorem State.setJump_idx (s : State) (c : Coord) : (s.setJump c).idx = s.idx := rfl
@[simp] theorem State.setJump_cmode (s : State) (c : Coord) : (s.setJump c).cmode = s.cmode := rfl
@[simp] theorem State.setJump_icoPos (s : State) (c : Coord) : (s.setJump c).icoPos = s.icoPos := rfl
@[simp] theorem State.setJump_stringMode (s : State) (c : Coord) : (s.setJump c).stringMode = s.stringMode := rfl
@[simp] theorem State.setJump_strafePending (s : State) (c : Coord) : (s.setJump c).strafePending = s.strafePending := rfl
@[simp] theorem State.setJump_jumpValid (s : State) (c : Coord) : (s.setJump c).jumpValid = true := rfl
@[simp] theorem State.setJump_jumpTarget (s : State) (c : Coord) : (s.setJump c).jumpTarget = c := rfl
@[simp] theorem State.setJump_iter (s : State) (c : Coord) : (s.setJump c).iter = s.iter := rfl
@[simp] theorem State.setJump_pushback (s : State) (c : Coord) : (s.setJump c).pushback = s.pushback := rfl
@[simp] theorem State.setJump_tick (s : State) (c : Coord) : (s.setJump c).tick = s.tick := rfl
@[simp] theorem State.setJump_runState (s : State) (c : Coord) : (s.setJump c).runState = s.runState := rfl
@[simp] theorem State.setJump_faultCode (s : State) (c : Coord) : (s.setJump c).faultCode = s.faultCode := rfl
@[simp] theorem State.setJump_maxTicks (s : State) (c : Coord) : (s.setJump c).maxTicks = s.maxTicks := rfl
@[simp] theorem State.setJump_debugLevel (s : State) (c : Coord) : (s.setJump c).debugLevel = s.debugLevel := rfl
@[simp] theorem State.setJump_params (s : State) (c : Coord) : (s.setJump c).params = s.params := rfl
@[simp] theorem State.setJump_input (s : State) (c : Coord) : (s.setJump c).input = s.input := rfl
@[simp] theorem State.setJump_output (s : State) (c : Coord) : (s.setJump c).output = s.output := rfl
@[simp] theorem State.setJump_draws (s : State) (c : Coord) : (s.setJump c).draws = s.draws := rfl
@[simp] theorem State.setJump_strobes (s : State) (c : Coord) : (s.setJump c).strobes = s.strobes := rfl
@[simp] theorem State.setJump_freeDraws (s : State) (c : Coord) : (s.setJump c).freeDraws = s.freeDraws := rfl

@[simp] theorem State.setCursor_gw (s : State) (m : CursorMode) (c : Coord) : (s.setCursor m c).gw = s.gw := rfl
@[simp] theorem State.setCursor_gh (s : State) (m : CursorMode) (c : Coord) : (s.setCursor m c).gh = s.gh := rfl
@[simp] theorem State.setCursor_grid (s : State) (m : CursorMode) (c : Coord) : (s.setCursor m c).grid = s.grid := rfl
@[simp] theorem State.setCursor_ip (s : State) (m : CursorMode) (c : Coord) : (s.setCursor m c).ip = s.ip := rfl
@[simp] theorem State.setCursor_dir (s : State) (m : CursorMode) (c : Coord) : (s.setCursor m c).dir = s.dir := rfl
@[simp] theorem State.setCursor_stack (s : State) (m : CursorMode) (c : Coord) : (s.setCursor m c).stack = s.stack := rfl
@[simp] theorem State.setCursor_faces (s : State) (m : CursorMode) (c : Coord) : (s.setCursor m c).faces = s.faces := rfl
@[simp] theorem State.setCursor_idx (s : State) (m : CursorMode) (c : Coord) : (s.setCursor m c).idx = s.idx := rfl
@[simp] theorem State.setCursor_cmode (s : State) (m : CursorMode) (c : Coord) : (s.setCursor m c).cmode = m := rfl
@[simp] theorem State.setCursor_icoPos (s : State) (m : CursorMode) (c : Coord) : (s.setCursor m c).icoPos = c := rfl
@[simp] theorem State.setCursor_stringMode (s : State) (m : CursorMode) (c : Coord) : (s.setCursor m c).stringMode = s.stringMode := rfl
@[simp] theorem State.setCursor_strafePending (s : State) (m : CursorMode) (c : Coord) : (s.setCursor m c).strafePending = s.strafePending := rfl
@[simp] theorem State.setCursor_jumpValid (s : State) (m : CursorMode) (c : Coord) : (s.setCursor m c).jumpValid = s.jumpValid := rfl
@[simp] theorem State.setCursor_jumpTarget (s : State) (m : CursorMode) (c : Coord) : (s.setCursor m c).jumpTarget = s.jumpTarget := rfl
@[simp] theorem State.setCursor_iter (s : State) (m : CursorMode) (c : Coord) : (s.setCursor m c).iter = s.iter := rfl
@[simp] theorem State.setCursor_pushback (s : State) (m : CursorMode) (c : Coord) : (s.setCursor m c).pushback = s.pushback := rfl
@[simp] theorem State.setCursor_tick (s : State) (m : CursorMode) (c : Coord) : (s.setCursor m c).tick = s.tick := rfl
@[simp] theorem State.setCursor_runState (s : State) (m : CursorMode) (c : Coord) : (s.setCursor m c).runState = s.runState := rfl
@[simp] theorem State.setCursor_faultCode (s : State) (m : CursorMode) (c : Coord) : (s.setCursor m c).faultCode = s.faultCode := rfl
@[simp] theorem State.setCursor_maxTicks (s : State) (m : CursorMode) (c : Coord) : (s.setCursor m c).maxTicks = s.maxTicks := rfl
@[simp] theorem State.setCursor_debugLevel (s : State) (m : CursorMode) (c : Coord) : (s.setCursor m c).debugLevel = s.debugLevel := rfl
@[simp] theorem State.setCursor_params (s : State) (m : CursorMode) (c : Coord) : (s.setCursor m c).params = s.params := rfl
@[simp] theorem State.setCursor_input (s : State) (m : CursorMode) (c : Coord) : (s.setCursor m c).input = s.input := rfl
@[simp] theorem State.setCursor_output (s : State) (m : CursorMode) (c : Coord) : (s.setCursor m c).output = s.output := rfl
@[simp] theorem State.setCursor_draws (s : State) (m : CursorMode) (c : Coord) : (s.setCursor m c).draws = s.draws := rfl
@[simp] theorem State.setCursor_strobes (s : State) (m : CursorMode) (c : Coord) : (s.setCursor m c).strobes = s.strobes := rfl
@[simp] theorem State.setCursor_freeDraws (s : State) (m : CursorMode) (c : Coord) : (s.setCursor m c).freeDraws = s.freeDraws := rfl

@[simp] theorem State.setIcoPos_gw (s : State) (c : Coord) : (s.setIcoPos c).gw = s.gw := rfl
@[simp] theorem State.setIcoPos_gh (s : State) (c : Coord) : (s.setIcoPos c).gh = s.gh := rfl
@[simp] theorem State.setIcoPos_grid (s : State) (c : Coord) : (s.setIcoPos c).grid = s.grid := rfl
@[simp] theorem State.setIcoPos_ip (s : State) (c : Coord) : (s.setIcoPos c).ip = s.ip := rfl
@[simp] theorem State.setIcoPos_dir (s : State) (c : Coord) : (s.setIcoPos c).dir = s.dir := rfl
@[simp] theorem State.setIcoPos_stack (s : State) (c : Coord) : (s.setIcoPos c).stack = s.stack := rfl
@[simp] theorem State.setIcoPos_faces (s : State) (c : Coord) : (s.setIcoPos c).faces = s.faces := rfl
@[simp] theorem State.setIcoPos_idx (s : State) (c : Coord) : (s.setIcoPos c).idx = s.idx := rfl
@[simp] theorem State.setIcoPos_cmode (s : State) (c : Coord) : (s.setIcoPos c).cmode = s.cmode := rfl
@[simp] theorem State.setIcoPos_icoPos (s : State) (c : Coord) : (s.setIcoPos c).icoPos = c := rfl
@[simp] theorem State.setIcoPos_stringMode (s : State) (c : Coord) : (s.setIcoPos c).stringMode = s.stringMode := rfl
@[simp] theorem State.setIcoPos_strafePending (s : State) (c : Coord) : (s.setIcoPos c).strafePending = s.strafePending := rfl
@[simp] theorem State.setIcoPos_jumpValid (s : State) (c : Coord) : (s.setIcoPos c).jumpValid = s.jumpValid := rfl
@[simp] theorem State.setIcoPos_jumpTarget (s : State) (c : Coord) : (s.setIcoPos c).jumpTarget = s.jumpTarget := rfl
@[simp] theorem State.setIcoPos_iter (s : State) (c : Coord) : (s.setIcoPos c).iter = s.iter := rfl
@[simp] theorem State.setIcoPos_pushback (s : State) (c : Coord) : (s.setIcoPos c).pushback = s.pushback := rfl
@[simp] theorem State.setIcoPos_tick (s : State) (c : Coord) : (s.setIcoPos c).tick = s.tick := rfl
@[simp] theorem State.setIcoPos_runState (s : State) (c : Coord) : (s.setIcoPos c).runState = s.runState := rfl
@[simp] theorem State.setIcoPos_faultCode (s : State) (c : Coord) : (s.setIcoPos c).faultCode = s.faultCode := rfl
@[simp] theorem State.setIcoPos_maxTicks (s : State) (c : Coord) : (s.setIcoPos c).maxTicks = s.maxTicks := rfl
@[simp] theorem State.setIcoPos_debugLevel (s : State) (c : Coord) : (s.setIcoPos c).debugLevel = s.debugLevel := rfl
@[simp] theorem State.setIcoPos_params (s : State) (c : Coord) : (s.setIcoPos c).params = s.params := rfl
@[simp] theorem State.setIcoPos_input (s : State) (c : Coord) : (s.setIcoPos c).input = s.input := rfl
@[simp] theorem State.setIcoPos_output (s : State) (c : Coord) : (s.setIcoPos c).output = s.output := rfl
@[simp] theorem State.setIcoPos_draws (s : State) (c : Coord) : (s.setIcoPos c).draws = s.draws := rfl
@[simp] theorem State.setIcoPos_strobes (s : State) (c : Coord) : (s.setIcoPos c).strobes = s.strobes := rfl
@[simp] theorem State.setIcoPos_freeDraws (s : State) (c : Coord) : (s.setIcoPos c).freeDraws = s.freeDraws := rfl

@[simp] theorem State.toggleString_gw (s : State) : (s.toggleString).gw = s.gw := rfl
@[simp] theorem State.toggleString_gh (s : State) : (s.toggleString).gh = s.gh := rfl
@[simp] theorem State.toggleString_grid (s : State) : (s.toggleString).grid = s.grid := rfl
@[simp] theorem State.toggleString_ip (s : State) : (s.toggleString).ip = s.ip := rfl
@[simp] theorem State.toggleString_dir (s : State) : (s.toggleString).dir = s.dir := rfl
@[simp] theorem State.toggleString_stack (s : State) : (s.toggleString).stack = s.stack := rfl
@[simp] theorem State.toggleString_faces (s : State) : (s.toggleString).faces = s.faces := rfl
@[simp] theorem State.toggleString_idx (s : State) : (s.toggleString).idx = s.idx := rfl
@[simp] theorem State.toggleString_cmode (s : State) : (s.toggleString).cmode = s.cmode := rfl
@[simp] theorem State.toggleString_icoPos (s : State) : (s.toggleString).icoPos = s.icoPos := rfl
@[simp] theorem State.toggleString_stringMode (s : State) : (s.toggleString).stringMode = !s.stringMode := rfl
@[simp] theorem State.toggleString_strafePending (s : State) : (s.toggleString).strafePending = s.strafePending := rfl
@[simp] theorem State.toggleString_jumpValid (s : State) : (s.toggleString).jumpValid = s.jumpValid := rfl
@[simp] theorem State.toggleString_jumpTarget (s : State) : (s.toggleString).jumpTarget = s.jumpTarget := rfl
@[simp] theorem State.toggleString_iter (s : State) : (s.toggleString).iter = s.iter := rfl
@[simp] theorem State.toggleString_pushback (s : State) : (s.toggleString).pushback = s.pushback := rfl
@[simp] theorem State.toggleString_tick (s : State) : (s.toggleString).tick = s.tick := rfl
@[simp] theorem State.toggleString_runState (s : State) : (s.toggleString).runState = s.runState := rfl
@[simp] theorem State.toggleString_faultCode (s : State) : (s.toggleString).faultCode = s.faultCode := rfl
@[simp] theorem State.toggleString_maxTicks (s : State) : (s.toggleString).maxTicks = s.maxTicks := rfl
@[simp] theorem State.toggleString_debugLevel (s : State) : (s.toggleString).debugLevel = s.debugLevel := rfl
@[simp] theorem State.toggleString_params (s : State) : (s.toggleString).params = s.params := rfl
@[simp] theorem State.toggleString_input (s : State) : (s.toggleString).input = s.input := rfl
@[simp] theorem State.toggleString_output (s : State) : (s.toggleString).output = s.output := rfl
@[simp] theorem State.toggleString_draws (s : State) : (s.toggleString).draws = s.draws := rfl
@[simp] theorem State.toggleString_strobes (s : State) : (s.toggleString).strobes = s.strobes := rfl
@[simp] theorem State.toggleString_freeDraws (s : State) : (s.toggleString).freeDraws = s.freeDraws := rfl

@[simp] theorem State.toggleStrafe_gw (s : State) : (s.toggleStrafe).gw = s.gw := rfl
@[simp] theorem State.toggleStrafe_gh (s : State) : (s.toggleStrafe).gh = s.gh := rfl
@[simp] theorem State.toggleStrafe_grid (s : State) : (s.toggleStrafe).grid = s.grid := rfl
@[simp] theorem State.toggleStrafe_ip (s : State) : (s.toggleStrafe).ip = s.ip := rfl
@[simp] theorem State.toggleStrafe_dir (s : State) : (s.toggleStrafe).dir = s.dir := rfl
@[simp] theorem State.toggleStrafe_stack (s : State) : (s.toggleStrafe).stack = s.stack := rfl
@[simp] theorem State.toggleStrafe_faces (s : State) : (s.toggleStrafe).faces = s.faces := rfl
@[simp] theorem State.toggleStrafe_idx (s : State) : (s.toggleStrafe).idx = s.idx := rfl
@[simp] theorem State.toggleStrafe_cmode (s : State) : (s.toggleStrafe).cmode = s.cmode := rfl
@[simp] theorem State.toggleStrafe_icoPos (s : State) : (s.toggleStrafe).icoPos = s.icoPos := rfl
@[simp] theorem State.toggleStrafe_stringMode (s : State) : (s.toggleStrafe).stringMode = s.stringMode := rfl
@[simp] theorem State.toggleStrafe_strafePending (s : State) : (s.toggleStrafe).strafePending = !s.strafePending := rfl
@[simp] theorem State.toggleStrafe_jumpValid (s : State) : (s.toggleStrafe).jumpValid = s.jumpValid := rfl
@[simp] theorem State.toggleStrafe_jumpTarget (s : State) : (s.toggleStrafe).jumpTarget = s.jumpTarget := rfl
@[simp] theorem State.toggleStrafe_iter (s : State) : (s.toggleStrafe).iter = s.iter := rfl
@[simp] theorem State.toggleStrafe_pushback (s : State) : (s.toggleStrafe).pushback = s.pushback := rfl
@[simp] theorem State.toggleStrafe_tick (s : State) : (s.toggleStrafe).tick = s.tick := rfl
@[simp] theorem State.toggleStrafe_runState (s : State) : (s.toggleStrafe).runState = s.runState := rfl
@[simp] theorem State.toggleStrafe_faultCode (s : State) : (s.toggleStrafe).faultCode = s.faultCode := rfl
@[simp] theorem State.toggleStrafe_maxTicks (s : State) : (s.toggleStrafe).maxTicks = s.maxTicks := rfl
@[simp] theorem State.toggleStrafe_debugLevel (s : State) : (s.toggleStrafe).debugLevel = s.debugLevel := rfl
@[simp] theorem State.toggleStrafe_params (s : State) : (s.toggleStrafe).params = s.params := rfl
@[simp] theorem State.toggleStrafe_input (s : State) : (s.toggleStrafe).input = s.input := rfl
@[simp] theorem State.toggleStrafe_output (s : State) : (s.toggleStrafe).output = s.output := rfl
@[simp] theorem State.toggleStrafe_draws (s : State) : (s.toggleStrafe).draws = s.draws := rfl
@[simp] theorem State.toggleStrafe_strobes (s : State) : (s.toggleStrafe).strobes = s.strobes := rfl
@[simp] theorem State.toggleStrafe_freeDraws (s : State) : (s.toggleStrafe).freeDraws = s.freeDraws := rfl

@[simp] theorem State.outWrite_gw (s : State) (b : Byte) : (s.outWrite b).gw = s.gw := rfl
@[simp] theorem State.outWrite_gh (s : State) (b : Byte) : (s.outWrite b).gh = s.gh := rfl
@[simp] theorem State.outWrite_grid (s : State) (b : Byte) : (s.outWrite b).grid = s.grid := rfl
@[simp] theorem State.outWrite_ip (s : State) (b : Byte) : (s.outWrite b).ip = s.ip := rfl
@[simp] theorem State.outWrite_dir (s : State) (b : Byte) : (s.outWrite b).dir = s.dir := rfl
@[simp] theorem State.outWrite_stack (s : State) (b : Byte) : (s.outWrite b).stack = s.stack := rfl
@[simp] theorem State.outWrite_faces (s : State) (b : Byte) : (s.outWrite b).faces = s.faces := rfl
@[simp] theorem State.outWrite_idx (s : State) (b : Byte) : (s.outWrite b).idx = s.idx := rfl
@[simp] theorem State.outWrite_cmode (s : State) (b : Byte) : (s.outWrite b).cmode = s.cmode := rfl
@[simp] theorem State.outWrite_icoPos (s : State) (b : Byte) : (s.outWrite b).icoPos = s.icoPos := rfl
@[simp] theorem State.outWrite_stringMode (s : State) (b : Byte) : (s.outWrite b).stringMode = s.stringMode := rfl
@[simp] theorem State.outWrite_strafePending (s : State) (b : Byte) : (s.outWrite b).strafePending = s.strafePending := rfl
@[simp] theorem State.outWrite_jumpValid (s : State) (b : Byte) : (s.outWrite b).jumpValid = s.jumpValid := rfl
@[simp] theorem State.outWrite_jumpTarget (s : State) (b : Byte) : (s.outWrite b).jumpTarget = s.jumpTarget := rfl
@[simp] theorem State.outWrite_iter (s : State) (b : Byte) : (s.outWrite b).iter = s.iter := rfl
@[simp] theorem State.outWrite_pushback (s : State) (b : Byte) : (s.outWrite b).pushback = s.pushback := rfl
@[simp] theorem State.outWrite_tick (s : State) (b : Byte) : (s.outWrite b).tick = s.tick := rfl
@[simp] theorem State.outWrite_runState (s : State) (b : Byte) : (s.outWrite b).runState = s.runState := rfl
@[simp] theorem State.outWrite_faultCode (s : State) (b : Byte) : (s.outWrite b).faultCode = s.faultCode := rfl
@[simp] theorem State.outWrite_maxTicks (s : State) (b : Byte) : (s.outWrite b).maxTicks = s.maxTicks := rfl
@[simp] theorem State.outWrite_debugLevel (s : State) (b : Byte) : (s.outWrite b).debugLevel = s.debugLevel := rfl
@[simp] theorem State.outWrite_params (s : State) (b : Byte) : (s.outWrite b).params = s.params := rfl
@[simp] theorem State.outWrite_input (s : State) (b : Byte) : (s.outWrite b).input = s.input := rfl
@[simp] theorem State.outWrite_output (s : State) (b : Byte) : (s.outWrite b).output = s.output ++ [b] := rfl
@[simp] theorem State.outWrite_draws (s : State) (b : Byte) : (s.outWrite b).draws = s.draws := rfl
@[simp] theorem State.outWrite_strobes (s : State) (b : Byte) : (s.outWrite b).strobes = s.strobes := rfl
@[simp] theorem State.outWrite_freeDraws (s : State) (b : Byte) : (s.outWrite b).freeDraws = s.freeDraws := rfl

@[simp] theorem State.strobe_gw (s : State) (r : StrobeReason) : (s.strobe r).gw = s.gw := rfl
@[simp] theorem State.strobe_gh (s : State) (r : StrobeReason) : (s.strobe r).gh = s.gh := rfl
@[simp] theorem State.strobe_grid (s : State) (r : StrobeReason) : (s.strobe r).grid = s.grid := rfl
@[simp] theorem State.strobe_ip (s : State) (r : StrobeReason) : (s.strobe r).ip = s.ip := rfl
@[simp] theorem State.strobe_dir (s : State) (r : StrobeReason) : (s.strobe r).dir = s.dir := rfl
@[simp] theorem State.strobe_stack (s : State) (r : StrobeReason) : (s.strobe r).stack = s.stack := rfl
@[simp] theorem State.strobe_faces (s : State) (r : StrobeReason) : (s.strobe r).faces = s.faces := rfl
@[simp] theorem State.strobe_idx (s : State) (r : StrobeReason) : (s.strobe r).idx = s.idx := rfl
@[simp] theorem State.strobe_cmode (s : State) (r : StrobeReason) : (s.strobe r).cmode = s.cmode := rfl
@[simp] theorem State.strobe_icoPos (s : State) (r : StrobeReason) : (s.strobe r).icoPos = s.icoPos := rfl
@[simp] theorem State.strobe_stringMode (s : State) (r : StrobeReason) : (s.strobe r).stringMode = s.stringMode := rfl
@[simp] theorem State.strobe_strafePending (s : State) (r : StrobeReason) : (s.strobe r).strafePending = s.strafePending := rfl
@[simp] theorem State.strobe_jumpValid (s : State) (r : StrobeReason) : (s.strobe r).jumpValid = s.jumpValid := rfl
@[simp] theorem State.strobe_jumpTarget (s : State) (r : StrobeReason) : (s.strobe r).jumpTarget = s.jumpTarget := rfl
@[simp] theorem State.strobe_iter (s : State) (r : StrobeReason) : (s.strobe r).iter = s.iter := rfl
@[simp] theorem State.strobe_pushback (s : State) (r : StrobeReason) : (s.strobe r).pushback = s.pushback := rfl
@[simp] theorem State.strobe_tick (s : State) (r : StrobeReason) : (s.strobe r).tick = s.tick := rfl
@[simp] theorem State.strobe_runState (s : State) (r : StrobeReason) : (s.strobe r).runState = s.runState := rfl
@[simp] theorem State.strobe_faultCode (s : State) (r : StrobeReason) : (s.strobe r).faultCode = s.faultCode := rfl
@[simp] theorem State.strobe_maxTicks (s : State) (r : StrobeReason) : (s.strobe r).maxTicks = s.maxTicks := rfl
@[simp] theorem State.strobe_debugLevel (s : State) (r : StrobeReason) : (s.strobe r).debugLevel = s.debugLevel := rfl
@[simp] theorem State.strobe_params (s : State) (r : StrobeReason) : (s.strobe r).params = s.params := rfl
@[simp] theorem State.strobe_input (s : State) (r : StrobeReason) : (s.strobe r).input = s.input := rfl
@[simp] theorem State.strobe_output (s : State) (r : StrobeReason) : (s.strobe r).output = s.output := rfl
@[simp] theorem State.strobe_draws (s : State) (r : StrobeReason) : (s.strobe r).draws = s.draws := rfl
@[simp] theorem State.strobe_strobes (s : State) (r : StrobeReason) : (s.strobe r).strobes = s.strobes ++ [⟨r, s.snapshot⟩] := rfl
@[simp] theorem State.strobe_freeDraws (s : State) (r : StrobeReason) : (s.strobe r).freeDraws = s.freeDraws := rfl

@[simp] theorem State.pushBack_gw (s : State) (t : InItem) : (s.pushBack t).gw = s.gw := by cases t <;> rfl
@[simp] theorem State.pushBack_gh (s : State) (t : InItem) : (s.pushBack t).gh = s.gh := by cases t <;> rfl
@[simp] theorem State.pushBack_grid (s : State) (t : InItem) : (s.pushBack t).grid = s.grid := by cases t <;> rfl
@[simp] theorem State.pushBack_ip (s : State) (t : InItem) : (s.pushBack t).ip = s.ip := by cases t <;> rfl
@[simp] theorem State.pushBack_dir (s : State) (t : InItem) : (s.pushBack t).dir = s.dir := by cases t <;> rfl
@[simp] theorem State.pushBack_stack (s : State) (t : InItem) : (s.pushBack t).stack = s.stack := by cases t <;> rfl
@[simp] theorem State.pushBack_faces (s : State) (t : InItem) : (s.pushBack t).faces = s.faces := by cases t <;> rfl
@[simp] theorem State.pushBack_idx (s : State) (t : InItem) : (s.pushBack t).idx = s.idx := by cases t <;> rfl
@[simp] theorem State.pushBack_cmode (s : State) (t : InItem) : (s.pushBack t).cmode = s.cmode := by cases t <;> rfl
@[simp] theorem State.pushBack_icoPos (s : State) (t : InItem) : (s.pushBack t).icoPos = s.icoPos := by cases t <;> rfl
@[simp] theorem State.pushBack_stringMode (s : State) (t : InItem) : (s.pushBack t).stringMode = s.stringMode := by cases t <;> rfl
@[simp] theorem State.pushBack_strafePending (s : State) (t : InItem) : (s.pushBack t).strafePending = s.strafePending := by cases t <;> rfl
@[simp] theorem State.pushBack_jumpValid (s : State) (t : InItem) : (s.pushBack t).jumpValid = s.jumpValid := by cases t <;> rfl
@[simp] theorem State.pushBack_jumpTarget (s : State) (t : InItem) : (s.pushBack t).jumpTarget = s.jumpTarget := by cases t <;> rfl
@[simp] theorem State.pushBack_iter (s : State) (t : InItem) : (s.pushBack t).iter = s.iter := by cases t <;> rfl
@[simp] theorem State.pushBack_tick (s : State) (t : InItem) : (s.pushBack t).tick = s.tick := by cases t <;> rfl
@[simp] theorem State.pushBack_runState (s : State) (t : InItem) : (s.pushBack t).runState = s.runState := by cases t <;> rfl
@[simp] theorem State.pushBack_faultCode (s : State) (t : InItem) : (s.pushBack t).faultCode = s.faultCode := by cases t <;> rfl
@[simp] theorem State.pushBack_maxTicks (s : State) (t : InItem) : (s.pushBack t).maxTicks = s.maxTicks := by cases t <;> rfl
@[simp] theorem State.pushBack_debugLevel (s : State) (t : InItem) : (s.pushBack t).debugLevel = s.debugLevel := by cases t <;> rfl
@[simp] theorem State.pushBack_params (s : State) (t : InItem) : (s.pushBack t).params = s.params := by cases t <;> rfl
@[simp] theorem State.pushBack_input (s : State) (t : InItem) : (s.pushBack t).input = s.input := by cases t <;> rfl
@[simp] theorem State.pushBack_output (s : State) (t : InItem) : (s.pushBack t).output = s.output := by cases t <;> rfl
@[simp] theorem State.pushBack_draws (s : State) (t : InItem) : (s.pushBack t).draws = s.draws := by cases t <;> rfl
@[simp] theorem State.pushBack_strobes (s : State) (t : InItem) : (s.pushBack t).strobes = s.strobes := by cases t <;> rfl
@[simp] theorem State.pushBack_freeDraws (s : State) (t : InItem) : (s.pushBack t).freeDraws = s.freeDraws := by cases t <;> rfl

@[simp] theorem State.inRead_gw (s : State) : (s.inRead).gw = s.gw := by unfold State.inRead; split <;> rfl
@[simp] theorem State.inRead_gh (s : State) : (s.inRead).gh = s.gh := by unfold State.inRead; split <;> rfl
@[simp] theorem State.inRead_grid (s : State) : (s.inRead).grid = s.grid := by unfold State.inRead; split <;> rfl
@[simp] theorem State.inRead_ip (s : State) : (s.inRead).ip = s.ip := by unfold State.inRead; split <;> rfl
@[simp] theorem State.inRead_dir (s : State) : (s.inRead).dir = s.dir := by unfold State.inRead; split <;> rfl
@[simp] theorem State.inRead_stack (s : State) : (s.inRead).stack = s.stack := by unfold State.inRead; split <;> rfl
@[simp] theorem State.inRead_faces (s : State) : (s.inRead).faces = s.faces := by unfold State.inRead; split <;> rfl
@[simp] theorem State.inRead_idx (s : State) : (s.inRead).idx = s.idx := by unfold State.inRead; split <;> rfl
@[simp] theorem State.inRead_cmode (s : State) : (s.inRead).cmode = s.cmode := by unfold State.inRead; split <;> rfl
@[simp] theorem State.inRead_icoPos (s : State) : (s.inRead).icoPos = s.icoPos := by unfold State.inRead; split <;> rfl
@[simp] theorem State.inRead_stringMode (s : State) : (s.inRead).stringMode = s.stringMode := by unfold State.inRead; split <;> rfl
@[simp] theorem State.inRead_strafePending (s : State) : (s.inRead).strafePending = s.strafePending := by unfold State.inRead; split <;> rfl
@[simp] theorem State.inRead_jumpValid (s : State) : (s.inRead).jumpValid = s.jumpValid := by unfold State.inRead; split <;> rfl
@[simp] theorem State.inRead_jumpTarget (s : State) : (s.inRead).jumpTarget = s.jumpTarget := by unfold State.inRead; split <;> rfl
@[simp] theorem State.inRead_iter (s : State) : (s.inRead).iter = s.iter := by unfold State.inRead; split <;> rfl
@[simp] theorem State.inRead_pushback (s : State) : (s.inRead).pushback = .empty := by unfold State.inRead; split <;> first | rfl | assumption
@[simp] theorem State.inRead_tick (s : State) : (s.inRead).tick = s.tick := by unfold State.inRead; split <;> rfl
@[simp] theorem State.inRead_runState (s : State) : (s.inRead).runState = s.runState := by unfold State.inRead; split <;> rfl
@[simp] theorem State.inRead_faultCode (s : State) : (s.inRead).faultCode = s.faultCode := by unfold State.inRead; split <;> rfl
@[simp] theorem State.inRead_maxTicks (s : State) : (s.inRead).maxTicks = s.maxTicks := by unfold State.inRead; split <;> rfl
@[simp] theorem State.inRead_debugLevel (s : State) : (s.inRead).debugLevel = s.debugLevel := by unfold State.inRead; split <;> rfl
@[simp] theorem State.inRead_params (s : State) : (s.inRead).params = s.params := by unfold State.inRead; split <;> rfl
@[simp] theorem State.inRead_output (s : State) : (s.inRead).output = s.output := by unfold State.inRead; split <;> rfl
@[simp] theorem State.inRead_draws (s : State) : (s.inRead).draws = s.draws := by unfold State.inRead; split <;> rfl
@[simp] theorem State.inRead_strobes (s : State) : (s.inRead).strobes = s.strobes := by unfold State.inRead; split <;> rfl
@[simp] theorem State.inRead_freeDraws (s : State) : (s.inRead).freeDraws = s.freeDraws := by unfold State.inRead; split <;> rfl

@[simp] theorem State.randNext_gw (s : State) : (s.randNext).gw = s.gw := by unfold State.randNext; split <;> rfl
@[simp] theorem State.randNext_gh (s : State) : (s.randNext).gh = s.gh := by unfold State.randNext; split <;> rfl
@[simp] theorem State.randNext_grid (s : State) : (s.randNext).grid = s.grid := by unfold State.randNext; split <;> rfl
@[simp] theorem State.randNext_ip (s : State) : (s.randNext).ip = s.ip := by unfold State.randNext; split <;> rfl
@[simp] theorem State.randNext_dir (s : State) : (s.randNext).dir = s.dir := by unfold State.randNext; split <;> rfl
@[simp] theorem State.randNext_stack (s : State) : (s.randNext).stack = s.stack := by unfold State.randNext; split <;> rfl
@[simp] theorem State.randNext_faces (s : State) : (s.randNext).faces = s.faces := by unfold State.randNext; split <;> rfl
@[simp] theorem State.randNext_idx (s : State) : (s.randNext).idx = s.idx := by unfold State.randNext; split <;> rfl
@[simp] theorem State.randNext_cmode (s : State) : (s.randNext).cmode = s.cmode := by unfold State.randNext; split <;> rfl
@[simp] theorem State.randNext_icoPos (s : State) : (s.randNext).icoPos = s.icoPos := by unfold State.randNext; split <;> rfl
@[simp] theorem State.randNext_stringMode (s : State) : (s.randNext).stringMode = s.stringMode := by unfold State.randNext; split <;> rfl
@[simp] theorem State.randNext_strafePending (s : State) : (s.randNext).strafePending = s.strafePending := by unfold State.randNext; split <;> rfl
@[simp] theorem State.randNext_jumpValid (s : State) : (s.randNext).jumpValid = s.jumpValid := by unfold State.randNext; split <;> rfl
@[simp] theorem State.randNext_jumpTarget (s : State) : (s.randNext).jumpTarget = s.jumpTarget := by unfold State.randNext; split <;> rfl
@[simp] theorem State.randNext_iter (s : State) : (s.randNext).iter = s.iter := by unfold State.randNext; split <;> rfl
@[simp] theorem State.randNext_pushback (s : State) : (s.randNext).pushback = s.pushback := by unfold State.randNext; split <;> rfl
@[simp] theorem State.randNext_tick (s : State) : (s.randNext).tick = s.tick := by unfold State.randNext; split <;> rfl
@[simp] theorem State.randNext_runState (s : State) : (s.randNext).runState = s.runState := by unfold State.randNext; split <;> rfl
@[simp] theorem State.randNext_faultCode (s : State) : (s.randNext).faultCode = s.faultCode := by unfold State.randNext; split <;> rfl
@[simp] theorem State.randNext_maxTicks (s : State) : (s.randNext).maxTicks = s.maxTicks := by unfold State.randNext; split <;> rfl
@[simp] theorem State.randNext_debugLevel (s : State) : (s.randNext).debugLevel = s.debugLevel := by unfold State.randNext; split <;> rfl
@[simp] theorem State.randNext_params (s : State) : (s.randNext).params = s.params := by unfold State.randNext; split <;> rfl
@[simp] theorem State.randNext_input (s : State) : (s.randNext).input = s.input := by unfold State.randNext; split <;> rfl
@[simp] theorem State.randNext_output (s : State) : (s.randNext).output = s.output := by unfold State.randNext; split <;> rfl
@[simp] theorem State.randNext_draws (s : State) : (s.randNext).draws = s.draws.tail := by unfold State.randNext; split <;> simp_all
@[simp] theorem State.randNext_strobes (s : State) : (s.randNext).strobes = s.strobes := by unfold State.randNext; split <;> rfl

end Sys2Proof.Machine
end

