-- ==== Sys2Proof/Laws/Ops.lean ====
section
/-! SUPPORT. What each shared operation can do, once for each: the provers cite these and do not unfold the operations. -/

namespace Sys2Proof.Machine

/-! ## Sequences -/

@[simp] theorem Flow.bind_cont (s : State) (f : State → Flow) : (Flow.cont s).bind f = f s := rfl
@[simp] theorem Flow.bind_stop (s : State) (f : State → Flow) : (Flow.stop s).bind f = .stop s := rfl
@[simp] theorem Flow.bind_fail (e : Fault) (f : State → Flow) : (Flow.fail e).bind f = .fail e := rfl
@[simp] theorem Flow.outcome_cont (s : State) : (Flow.cont s).outcome = .next s := rfl
@[simp] theorem Flow.outcome_stop (s : State) : (Flow.stop s).outcome = .next s := rfl
@[simp] theorem Flow.outcome_fail (e : Fault) : (Flow.fail e).outcome = .fault e := rfl

/-- A sequence answers a next state when it goes on and when a fault was raised. -/
theorem Flow.outcome_eq_next {x : Flow} {t : State} : x.outcome = .next t ↔ x = .cont t ∨ x = .stop t := by
  cases x <;> simp

/-- A sequence goes on through its first part and then through its second. -/
theorem Flow.bind_eq_cont {x : Flow} {f : State → Flow} {t : State} : x.bind f = .cont t ↔ ∃ u, x = .cont u ∧ f u = .cont t := by
  cases x <;> simp

/-- A sequence stops in its first part, or goes on through it and stops in its second. -/
theorem Flow.bind_eq_stop {x : Flow} {f : State → Flow} {t : State} :
    x.bind f = .stop t ↔ x = .stop t ∨ ∃ u, x = .cont u ∧ f u = .stop t := by
  cases x <;> simp

/-- Every state a sequence can end in has the property, whether it went on or was stopped. -/
def Flow.Yields (P : State → Prop) (x : Flow) : Prop := ∀ t, x.outcome = .next t → P t

@[simp] theorem Flow.yields_cont {P : State → Prop} {s : State} : (Flow.cont s).Yields P ↔ P s := by simp [Flow.Yields]
@[simp] theorem Flow.yields_stop {P : State → Prop} {s : State} : (Flow.stop s).Yields P ↔ P s := by simp [Flow.Yields]
@[simp] theorem Flow.yields_fail {P : State → Prop} {e : Fault} : (Flow.fail e).Yields P := by simp [Flow.Yields]

/-- A property of all ends of a sequence, from the property of its first part and a second part that keeps it. -/
theorem Flow.Yields.bind {P : State → Prop} {x : Flow} {f : State → Flow} (hx : x.Yields P)
    (hf : ∀ s, P s → (f s).Yields P) : (x.bind f).Yields P := by
  cases x with
  | cont s => exact hf s (by simpa using hx)
  | stop s => simpa using hx
  | fail e => simp

/-! ## The grid and the stack -/

/-- A grid write inside the grid (20_memory.md R73). -/
theorem gridWrite_inBounds {s : State} {c : Coord} (v : Int) (h : s.InBounds c) : gridWrite c v s = .cont (s.withCell c v) := if_pos h

/-- All that a grid write can do. -/
theorem gridWrite_cases (c : Coord) (v : Int) (s : State) :
    (s.InBounds c ∧ gridWrite c v s = .cont (s.withCell c v)) ∨ (¬ s.InBounds c ∧ gridWrite c v s = .fail .gridWriteOutOfBounds) := by
  by_cases h : s.InBounds c
  · exact .inl ⟨h, if_pos h⟩
  · exact .inr ⟨h, if_neg h⟩

/-- A read outside the grid answers 0 (R72). -/
theorem gridRead_outside {s : State} {c : Coord} (h : ¬ s.InBounds c) : s.gridRead c = 0 := if_neg h

/-- All that a push can do (R77). -/
theorem push_cases (v : Int) (s : State) :
    (¬ s.Full ∧ push v s = .cont (s.pushed v)) ∨ (s.Full ∧ push v s = .stop (s.raised .stackOverflow)) := by
  by_cases h : s.Full
  · exact .inr ⟨h, if_pos h⟩
  · exact .inl ⟨h, if_neg h⟩

/-- A push where there is room. -/
theorem push_room {s : State} (v : Int) (h : s.roomAfter 0) : push v s = .cont (s.pushed v) := if_neg h

/-- A push where there is none (60_exceptions.md R434). -/
theorem push_full {s : State} (v : Int) (h : ¬ s.roomAfter 0) : push v s = .stop (s.raised .stackOverflow) :=
  if_pos (Decidable.not_not.1 h)

theorem top_eq_operand (s : State) : s.top = s.operand 0 := by
  cases h : s.stack <;> simp [State.top, State.operand, h]

theorem popped_operand (s : State) (k : Nat) : s.popped.operand k = s.operand (k + 1) := by
  cases h : s.stack <;> simp [State.operand, h]

theorem popped_roomAfter (s : State) (k : Nat) : s.popped.roomAfter k ↔ s.roomAfter (k + 1) := by
  simp only [State.roomAfter, State.popped_params, State.popped_stack, List.length_tail, Nat.sub_sub, Nat.add_comm 1 k]

/-- A one-operand instruction with room for its result: the top replaced, nothing else. -/
theorem unary_room {s : State} (f : Int → Int) (h : s.roomAfter 1) :
    (unary f s).outcome = .next { s with stack := f (s.operand 0) :: s.stack.tail } := by
  rw [unary, push_room _ ((popped_roomAfter s 0).2 h), top_eq_operand]; rfl

/-- A two-operand instruction with room for its result: the two top words replaced, nothing else. -/
theorem binary_room {s : State} (f : Int → Int → Int) (h : s.roomAfter 2) :
    (binary f s).outcome = .next { s with stack := f (s.operand 1) (s.operand 0) :: s.stack.drop 2 } := by
  rw [binary, push_room _ ((popped_roomAfter _ 0).2 ((popped_roomAfter s 1).2 h)), top_eq_operand, top_eq_operand, popped_operand]
  simp only [Flow.outcome_cont, State.pushed, State.popped, ← List.drop_one, List.drop_drop]

/-- A division with a divisor other than 0 is a two-operand instruction. -/
theorem dividing_nonzero {s : State} (f : Int → Int → Int) (h : s.operand 0 ≠ 0) : dividing f s = binary f s :=
  if_neg (by rwa [top_eq_operand])

/-- A zero divisor faults with both operands popped (60_exceptions.md R433). -/
theorem dividing_zero {s : State} (f : Int → Int → Int) (h : s.operand 0 = 0) :
    dividing f s = .stop (s.popped.popped.raised .divByZero) := if_pos (by rwa [top_eq_operand])

/-- A popped coordinate on a grid with cells. -/
theorem withCoord_grid {s : State} (f : Coord → State → State) (hw : 0 < s.gw) (hh : 0 < s.gh) :
    withCoord f s = .cont (f s.popCoord s.popped.popped) := if_neg (by omega)

/-- A popped coordinate lies in the grid (43_control_flow.md R248). -/
theorem popCoord_inBounds (s : State) (hw : 0 < s.gw) (hh : 0 < s.gh) : s.InBounds s.popCoord := by
  have hw' : (0 : Int) < s.gw := by exact_mod_cast hw
  have hh' : (0 : Int) < s.gh := by exact_mod_cast hh
  exact ⟨Int.fmod_nonneg_of_pos _ hw', Int.fmod_lt_of_pos _ hw', Int.fmod_nonneg_of_pos _ hh', Int.fmod_lt_of_pos _ hh'⟩

/-! ## The icosahedron -/

/-- One entry of a permuted file (41_ico_engine.md R184). -/
theorem permute_get (p : PermTable) (idx : Vector (Fin 20) 20) (k : Fin 20) : (permute p idx)[k] = idx[p[k]] := by
  simp [permute, mapVec]

/-- The permuted file as a list. -/
theorem permute_toList (p : PermTable) (idx : Vector (Fin 20) 20) : (permute p idx).toList = p.toList.map fun i => idx[i] := by
  simp [permute, mapVec]

/-- The entries of a file without repeats are told apart by their places. -/
theorem get_injective {v : Vector (Fin 20) 20} (h : v.toList.Nodup) {i j : Fin 20} (e : v[i] = v[j]) : i = j := by
  have := (List.nodup_iff_injective_get.1 h) (a₁ := ⟨i, by simp⟩) (a₂ := ⟨j, by simp⟩) (by simpa using e)
  exact Fin.ext (by simpa using this)

/-- A bijective table keeps a bijective file bijective. -/
theorem permute_nodup {p : PermTable} {idx : Vector (Fin 20) 20} (hp : p.toList.Nodup) (hi : idx.toList.Nodup) :
    (permute p idx).toList.Nodup := by
  rw [permute_toList]
  exact hp.map fun i j e => get_injective hi e

/-- The tables of allowed launch parameters are bijective. -/
theorem RotTable.ok_nodup {t : RotTable} (h : RotTable.ok t = true) (k : Fin 11) : t[k].toList.Nodup := by
  simp only [RotTable.ok, Bool.and_eq_true, List.all_eq_true, decide_eq_true_eq] at h
  exact h.1.1.1.1.1.1.1.1 _ (by simp)

/-- All that a rotation can do (60_exceptions.md R435). -/
theorem rotate_cases (r : Rotation) (s : State) :
    ((permute (s.table r) s.idx).toList.Nodup ∧ rotate r s = .cont (s.permuted (s.table r))) ∨
    (¬ (permute (s.table r) s.idx).toList.Nodup ∧ rotate r s = .stop (s.raised .invariant)) := by
  by_cases h : (permute (s.table r) s.idx).toList.Nodup
  · exact .inl ⟨h, if_pos h⟩
  · exact .inr ⟨h, if_neg h⟩

/-- A rotation by an allowed table. -/
theorem rotate_ok {s : State} (r : Rotation) (hp : s.params.rotTable.ok = true) (hi : s.idx.toList.Nodup) :
    rotate r s = .cont (s.permuted (s.table r)) :=
  if_pos (permute_nodup (RotTable.ok_nodup hp _) hi)

/-- `k` rotations by an allowed table. -/
theorem rotateTimes_ok (r : Rotation) (k : Nat) {s : State} (hp : s.params.rotTable.ok = true) (hi : s.idx.toList.Nodup) :
    rotateTimes r k s = .cont { s with idx := (permute (s.table r))^[k] s.idx } ∧
      ((permute (s.table r))^[k] s.idx).toList.Nodup := by
  induction k generalizing s with
  | zero => exact ⟨rfl, hi⟩
  | succ k ih =>
    have := ih (s := s.permuted (s.table r)) hp (permute_nodup (RotTable.ok_nodup hp _) hi)
    rw [rotateTimes, rotate_ok r hp hi]
    exact this

/-- All that the bridge can do (41_ico_engine.md R189). -/
theorem bridge_cases (s : State) :
    (s.cmode = .none ∧ bridge s = .cont s) ∨
    (s.cmode = .get ∧ bridge s = .cont (s.faceWrite s.activeIndex (s.gridRead s.icoPos))) ∨
    (s.cmode = .set ∧ s.InBounds s.icoPos ∧ bridge s = .cont (s.withCell s.icoPos s.icoLoad)) ∨
    (s.cmode = .set ∧ ¬ s.InBounds s.icoPos ∧ bridge s = .fail .gridWriteOutOfBounds) := by
  rcases h : s.cmode with _ | _ | _
  · exact .inl ⟨rfl, by simp [bridge, h]⟩
  · exact .inr (.inl ⟨rfl, by simp [bridge, h]⟩)
  · by_cases hb : s.InBounds s.icoPos
    · exact .inr (.inr (.inl ⟨rfl, hb, by rw [bridge, h]; exact if_pos hb⟩))
    · exact .inr (.inr (.inr ⟨rfl, hb, by rw [bridge, h]; exact if_neg hb⟩))

/-- With the cursor in the grid the bridge goes on and does what `Bridged` says. -/
theorem bridge_bridged {s : State} (hs : memSorted s.grid = true) (hc : s.cmode ≠ .none → s.InBounds s.icoPos) :
    ∃ t, bridge s = .cont t ∧ Bridged s t := by
  rcases bridge_cases s with ⟨h, e⟩ | ⟨h, e⟩ | ⟨h, hb, e⟩ | ⟨h, hb, e⟩
  · exact ⟨_, e, fun _ => rfl, fun g => by simp [h] at g, fun g => by simp [h] at g⟩
  · exact ⟨_, e, fun g => by simp [h] at g, fun _ => rfl, fun g => by simp [h] at g⟩
  · exact ⟨_, e, fun g => by simp [h] at g, fun g => by simp [h] at g,
      fun _ => ⟨_, rfl, fun c => gridRead_withCell s s.icoPos c s.icoLoad hs hb⟩⟩
  · exact absurd (hc (by simp [h])) hb

/-! ## Input -/

/-- What an input read leaves of the stream: the pushback slot shields it. -/
theorem State.inRead_input (s : State) : s.inRead.input = if s.pushback = .empty then s.input.tail else s.input := by
  unfold State.inRead; split <;> simp_all

/-- The reader with nothing pushed back. -/
theorem readDigits_nil (k : Nat) (val : Int) (s : State) (hp : s.pushback = .empty) (hi : s.input = []) :
    readDigits (k + 1) val s = (val, { s with pushback := .eos }) := by
  simp [readDigits, State.inItem, State.inRead, State.portItem, State.pushBack, hp, hi]

theorem readDigits_digit (k : Nat) (val : Int) (s : State) (b : Byte) (rest : List Byte) (d : Nat) (hp : s.pushback = .empty)
    (hi : s.input = b :: rest) (hd : digitValue b = some d) :
    readDigits (k + 1) val s = readDigits k (s.wrapW (val * 10 + d)) { s with input := rest } := by
  simp [readDigits, State.inItem, State.inRead, State.portItem, hp, hi, hd]

theorem readDigits_other (k : Nat) (val : Int) (s : State) (b : Byte) (rest : List Byte) (hp : s.pushback = .empty)
    (hi : s.input = b :: rest) (hd : digitValue b = none) :
    readDigits (k + 1) val s = (val, { s with input := rest, pushback := .byte b }) := by
  simp [readDigits, State.inItem, State.inRead, State.portItem, State.pushBack, hp, hi, hd]

/-- The digit loop touches the stream and the pushback slot only (48_io.md R384). -/
theorem readDigits_frame (k : Nat) (val : Int) (s : State) :
    ∃ i p, (readDigits k val s).2 = { s with input := i, pushback := p } := by
  induction k generalizing val s with
  | zero => exact ⟨s.input, s.pushback, rfl⟩
  | succ k ih =>
    have hr : ∃ i p, s.inRead = { s with input := i, pushback := p } := by
      unfold State.inRead; split
      · exact ⟨_, _, rfl⟩
      · exact ⟨_, _, rfl⟩
    obtain ⟨i, p, hr⟩ := hr
    rw [readDigits]
    split
    · split
      · rename_i d _
        obtain ⟨i', p', h⟩ := ih (s.wrapW (val * 10 + d)) s.inRead
        exact ⟨i', p', by rw [h, hr]⟩
      · exact ⟨i, _, by rw [hr]; rfl⟩
    · exact ⟨i, _, by rw [hr]; rfl⟩

/-! ## The move phase -/

/-- Reflecting three times at a cell of either parity gives the direction back (40_direction_algebra.md R152). -/
theorem reflectBoundary_three (d : Dir) (c : Coord) : reflectBoundary (reflectBoundary (reflectBoundary d c) c) c = d := by
  unfold reflectBoundary
  cases isUpward c <;> cases d <;> rfl

/-- All that the tries can answer: the first direction whose step is in bounds, with that step, or none at all. -/
theorem findStep_cases (s : State) (k : Nat) (d : Dir) :
    (∃ j, j < k ∧ (∀ l, l < j → ¬ s.InBounds (stepFrom ((fun x => reflectBoundary x s.ip)^[l] d) s.ip)) ∧
      s.InBounds (stepFrom ((fun x => reflectBoundary x s.ip)^[j] d) s.ip) ∧
      s.findStep k d = some ((fun x => reflectBoundary x s.ip)^[j] d, stepFrom ((fun x => reflectBoundary x s.ip)^[j] d) s.ip)) ∨
    ((∀ l, l < k → ¬ s.InBounds (stepFrom ((fun x => reflectBoundary x s.ip)^[l] d) s.ip)) ∧ s.findStep k d = none) := by
  induction k generalizing d with
  | zero => exact .inr ⟨by omega, rfl⟩
  | succ k ih =>
    by_cases h : s.InBounds (stepFrom d s.ip)
    · exact .inl ⟨0, by omega, by omega, h, by rw [State.findStep, if_pos h]; rfl⟩
    · rw [State.findStep, if_neg h]
      rcases ih (reflectBoundary d s.ip) with ⟨j, hj, hl, hb, e⟩ | ⟨hl, e⟩
      · refine .inl ⟨j + 1, by omega, fun l hlt => ?_, by simpa using hb, by simpa using e⟩
        cases l with
        | zero => exact h
        | succ l => simpa using hl l (by omega)
      · refine .inr ⟨fun l hlt => ?_, e⟩
        cases l with
        | zero => exact h
        | succ l => simpa using hl l (by omega)

/-- All that a normal step can do (42_tick_and_move.md R222, R223). -/
theorem normalStep_cases (s : State) :
    (∃ d c, c = stepFrom d s.ip ∧ s.InBounds c ∧ normalStep s = .cont { s with dir := d, ip := c }) ∨
    (s.params.isolated = .stay ∧ normalStep s = .cont s) ∨
    (s.params.isolated = .fault ∧ normalStep s = .stop (s.raised .noMove)) := by
  rcases findStep_cases s 3 s.dir with ⟨j, -, -, hb, e⟩ | ⟨-, e⟩
  · exact .inl ⟨_, _, rfl, hb, by rw [normalStep, e]⟩
  · rw [normalStep, e, isolatedCell]
    rcases s.params.isolated with _ | _
    · exact .inr (.inl ⟨rfl, rfl⟩)
    · exact .inr (.inr ⟨rfl, rfl⟩)

/-- All that a move can do (R218). -/
theorem move_cases (s : State) :
    (s.jumpValid = true ∧ move s = .cont { s with ip := s.jumpTarget, jumpValid := false }) ∨
    (s.jumpValid = false ∧ s.strafePending = true ∧ s.InBounds (strafeFrom s.params.strafe s.dir s.ip) ∧
      move s = .cont { s with strafePending := false, ip := strafeFrom s.params.strafe s.dir s.ip }) ∨
    (s.jumpValid = false ∧ (s.strafePending = true → ¬ s.InBounds (strafeFrom s.params.strafe s.dir s.ip)) ∧
      move s = normalStep { s with strafePending := false }) := by
  by_cases hj : s.jumpValid = true
  · exact .inl ⟨hj, if_pos hj⟩
  · have hj' : s.jumpValid = false := by simpa using hj
    by_cases hs : s.strafePending = true
    · by_cases hb : s.InBounds (strafeFrom s.params.strafe s.dir s.ip)
      · exact .inr (.inl ⟨hj', hs, hb, by rw [move, if_neg hj, if_pos hs, if_pos hb]⟩)
      · exact .inr (.inr ⟨hj', fun _ => hb, by rw [move, if_neg hj, if_pos hs, if_neg hb]⟩)
    · have : ({ s with strafePending := false } : State) = s := by
        rw [Bool.not_eq_true] at hs; rw [← hs]
      exact .inr (.inr ⟨hj', fun h => absurd h hs, by rw [move, if_neg hj, if_neg hs, this]⟩)

/-- The end of a tick: a move that goes on is counted, one that faulted is not, and a move never fails (R219). -/
theorem moveAndCount_cases (s : State) :
    (∃ t, move s = .cont t ∧ moveAndCount s = .next { t with tick := t.tick + 1 }) ∨
    (∃ t, move s = .stop t ∧ t = (({ s with strafePending := false } : State).raised .noMove) ∧ moveAndCount s = .next t) := by
  rcases move_cases s with ⟨-, e⟩ | ⟨-, -, -, e⟩ | ⟨-, -, e⟩
  · exact .inl ⟨_, e, by rw [moveAndCount, e]⟩
  · exact .inl ⟨_, e, by rw [moveAndCount, e]⟩
  · rcases normalStep_cases { s with strafePending := false } with ⟨d, c, -, -, e'⟩ | ⟨-, e'⟩ | ⟨-, e'⟩
    · exact .inl ⟨_, e.trans e', by rw [moveAndCount, e.trans e']⟩
    · exact .inl ⟨_, e.trans e', by rw [moveAndCount, e.trans e']⟩
    · exact .inr ⟨_, e.trans e', rfl, by rw [moveAndCount, e.trans e']⟩

/-! ## The tick -/

/-- A property that every execution of one instruction on a running core keeps is kept by a repeated execution (R226). -/
theorem repeatExec_induction {i : Instr} {P : State → Prop}
    (hP : ∀ s t, P s → s.runState = .running → exec i s = .next t → P t) :
    ∀ (n : Nat) (s t : State), P s → s.runState = .running → repeatExec i n s = .next t → P t := by
  intro n
  induction n with
  | zero => intro s t hs hr h; simp only [repeatExec, Host.Outcome.next.injEq] at h; exact h ▸ hs
  | succ n ih =>
    intro s t hs hr h
    rw [repeatExec] at h
    split at h
    · rename_i u hu
      split at h
      · exact ih u t (hP s u hs hr hu) ‹_› h
      · simp only [Host.Outcome.next.injEq] at h; exact h ▸ hP s u hs hr hu
    · cases h
    · cases h

/-- What follows the execution part of a tick. -/
theorem finishTick_eq_next {x : Host.Outcome State Fault Refusal} {t : State} :
    finishTick x = .next t ↔ ∃ u, x = .next u ∧ ((u.runState = .running ∧ moveAndCount u = .next t) ∨ (u.runState ≠ .running ∧ t = u)) := by
  cases x with
  | next u =>
    by_cases h : u.runState = .running <;> simp [finishTick, h, @eq_comm _ t]
  | fault f => simp [finishTick]
  | refused r => simp [finishTick]

/-- All that a tick can do (R210). -/
theorem tickStep_cases (s : State) :
    (s.Capped ∧ tickStep s = .next { s with runState := .haltCapped }) ∨
    (¬ s.Capped ∧ s.stringMode = true ∧ tickStep s = finishTick (stringCell s.tickHook).outcome) ∨
    (¬ s.Capped ∧ s.stringMode = false ∧ tickStep s = finishTick (decodedCell s.tickHook)) := by
  by_cases h : s.Capped
  · exact .inl ⟨h, if_pos h⟩
  · by_cases hm : s.stringMode = true
    · exact .inr (.inl ⟨h, hm, by rw [tickStep, if_neg h, if_pos hm]⟩)
    · exact .inr (.inr ⟨h, by simpa using hm, by rw [tickStep, if_neg h, if_neg hm]⟩)

/-- The debug hook writes the strobes only (R212). -/
theorem tickHook_frame (s : State) : ∃ l, s.tickHook = { s with strobes := l } := by
  unfold State.tickHook; split
  · exact ⟨_, rfl⟩
  · exact ⟨s.strobes, rfl⟩

end Sys2Proof.Machine
end

