-- ==== Sys2Proof/Laws/PerInstr.lean ====
section
/-! SUPPORT. One fact about the encoding of each instruction: the byte the spec fixes for it (30_encoding.md R103). -/

namespace Sys2Proof.Laws.FixedByte

/-- The encoder's fixed byte and the decoder's fixed map agree on the instruction, in both directions (R103). -/
def Statement (i : Instr) : Prop := ∀ b : Nat, fixedByteOf i = some b ↔ fixedOp b = some i

/-- The fixed map answers no other instructions than the eight of R103. -/
theorem fixedOp_range {b : Nat} {i : Instr} (h : fixedOp b = some i) :
    i = .stringToggle ∨ i = .push0 ∨ i = .add ∨ i = .sub ∨ i = .terminate ∨ i = .readInt ∨ i = .printInt ∨ ∃ d, i = .digit d := by
  unfold fixedOp at h
  split_ifs at h <;> simp_all [eq_comm]

/-- An instruction that is none of the eight has no fixed byte. -/
theorem statement_of_none {i : Instr} (h : fixedByteOf i = none)
    (hi : ¬ (i = .stringToggle ∨ i = .push0 ∨ i = .add ∨ i = .sub ∨ i = .terminate ∨ i = .readInt ∨ i = .printInt ∨ ∃ d, i = .digit d)) :
    Statement i := fun _ => ⟨fun e => by simp [h] at e, fun e => absurd (fixedOp_range e) hi⟩

theorem mirrorSwNe : Statement .mirrorSwNe := statement_of_none rfl (by simp)
theorem mirrorNwSe : Statement .mirrorNwSe := statement_of_none rfl (by simp)
theorem mirrorWE : Statement .mirrorWE := statement_of_none rfl (by simp)
theorem mirrorNS : Statement .mirrorNS := statement_of_none rfl (by simp)
theorem strafe : Statement .strafe := statement_of_none rfl (by simp)
theorem skip : Statement .skip := statement_of_none rfl (by simp)
theorem skipZ : Statement .skipZ := statement_of_none rfl (by simp)
theorem iterate : Statement .iterate := statement_of_none rfl (by simp)
theorem jump : Statement .jump := statement_of_none rfl (by simp)
theorem turnL : Statement .turnL := statement_of_none rfl (by simp)
theorem turnR : Statement .turnR := statement_of_none rfl (by simp)
theorem turnC : Statement .turnC := statement_of_none rfl (by simp)
theorem push0 : Statement .push0 := by
  intro b
  unfold fixedOp fixedByteOf
  split_ifs <;> simp <;> omega

theorem digit (d : Nat) : Statement (.digit d) := by
  intro b
  unfold fixedOp fixedByteOf
  split_ifs <;> simp <;> omega

theorem inc : Statement .inc := statement_of_none rfl (by simp)
theorem dec : Statement .dec := statement_of_none rfl (by simp)
theorem not : Statement .not := statement_of_none rfl (by simp)
theorem neg : Statement .neg := statement_of_none rfl (by simp)
theorem add : Statement .add := by
  intro b
  unfold fixedOp fixedByteOf
  split_ifs <;> simp <;> omega

theorem sub : Statement .sub := by
  intro b
  unfold fixedOp fixedByteOf
  split_ifs <;> simp <;> omega

theorem mul : Statement .mul := statement_of_none rfl (by simp)
theorem div : Statement .div := statement_of_none rfl (by simp)
theorem mod : Statement .mod := statement_of_none rfl (by simp)
theorem and : Statement .and := statement_of_none rfl (by simp)
theorem or : Statement .or := statement_of_none rfl (by simp)
theorem xor : Statement .xor := statement_of_none rfl (by simp)
theorem bnot : Statement .bnot := statement_of_none rfl (by simp)
theorem discard : Statement .discard := statement_of_none rfl (by simp)
theorem dup : Statement .dup := statement_of_none rfl (by simp)
theorem swap : Statement .swap := statement_of_none rfl (by simp)
theorem depth : Statement .depth := statement_of_none rfl (by simp)
theorem reverse : Statement .reverse := statement_of_none rfl (by simp)
theorem rotl : Statement .rotl := statement_of_none rfl (by simp)
theorem rotr : Statement .rotr := statement_of_none rfl (by simp)
theorem rotEdgeNw : Statement .rotEdgeNw := statement_of_none rfl (by simp)
theorem rotEdgeNe : Statement .rotEdgeNe := statement_of_none rfl (by simp)
theorem rotEdgeS : Statement .rotEdgeS := statement_of_none rfl (by simp)
theorem rotEdgeNwN : Statement .rotEdgeNwN := statement_of_none rfl (by simp)
theorem rotEdgeNeSe : Statement .rotEdgeNeSe := statement_of_none rfl (by simp)
theorem rotEdgeSSw : Statement .rotEdgeSSw := statement_of_none rfl (by simp)
theorem rotCornerN : Statement .rotCornerN := statement_of_none rfl (by simp)
theorem rotCornerSe : Statement .rotCornerSe := statement_of_none rfl (by simp)
theorem rotCornerSw : Statement .rotCornerSw := statement_of_none rfl (by simp)
theorem rotFace : Statement .rotFace := statement_of_none rfl (by simp)
theorem rotFlip : Statement .rotFlip := statement_of_none rfl (by simp)
theorem roll : Statement .roll := statement_of_none rfl (by simp)
theorem rotCond : Statement .rotCond := statement_of_none rfl (by simp)
theorem rotRand : Statement .rotRand := statement_of_none rfl (by simp)
theorem pushFace : Statement .pushFace := statement_of_none rfl (by simp)
theorem store : Statement .store := statement_of_none rfl (by simp)
theorem load : Statement .load := statement_of_none rfl (by simp)
theorem cursorGet : Statement .cursorGet := statement_of_none rfl (by simp)
theorem cursorSet : Statement .cursorSet := statement_of_none rfl (by simp)
theorem cursorEnd : Statement .cursorEnd := statement_of_none rfl (by simp)
theorem icoMoveW : Statement .icoMoveW := statement_of_none rfl (by simp)
theorem icoMoveE : Statement .icoMoveE := statement_of_none rfl (by simp)
theorem icoMoveNw : Statement .icoMoveNw := statement_of_none rfl (by simp)
theorem icoMoveNe : Statement .icoMoveNe := statement_of_none rfl (by simp)
theorem icoMoveSw : Statement .icoMoveSw := statement_of_none rfl (by simp)
theorem icoMoveSe : Statement .icoMoveSe := statement_of_none rfl (by simp)
theorem rotateCells : Statement .rotateCells := statement_of_none rfl (by simp)
theorem readByte : Statement .readByte := statement_of_none rfl (by simp)
theorem writeByte : Statement .writeByte := statement_of_none rfl (by simp)
theorem readInt : Statement .readInt := by
  intro b
  unfold fixedOp fixedByteOf
  split_ifs <;> simp <;> omega

theorem printInt : Statement .printInt := by
  intro b
  unfold fixedOp fixedByteOf
  split_ifs <;> simp <;> omega

theorem writeNl : Statement .writeNl := statement_of_none rfl (by simp)
theorem stringToggle : Statement .stringToggle := by
  intro b
  unfold fixedOp fixedByteOf
  split_ifs <;> simp <;> omega

theorem terminate : Statement .terminate := by
  intro b
  unfold fixedOp fixedByteOf
  split_ifs <;> simp <;> omega

theorem nop : Statement .nop := statement_of_none rfl (by simp)
theorem debug : Statement .debug := statement_of_none rfl (by simp)

end Sys2Proof.Laws.FixedByte
end

