-- ==== Sys2Proof/Tests/Slice0.lean ====
section
/-! SUPPORT. Tests: ill-formed terms refused, words decoded, single instructions on the spec's vectors (95_test_vectors.md), and for each
statement with hypotheses a witness that meets them. -/

namespace Sys2Proof.Tests

open Sys2Proof Sys2Proof.Machine

/-! ## Helpers: the hypothetical tables `T_H` and `S_H` of 95_test_vectors.md section 0, an opcode map, small states -/

def swapTable (a b : Fin 20) : PermTable := mapVec (fun i => if i = a then b else if i = b then a else i) identityPerm

def tableH : RotTable :=
  #v[swapTable 0 1, swapTable 0 2, swapTable 0 3, swapTable 0 4, swapTable 0 5, swapTable 0 6,
     #v[1, 2, 3, 4, 0, 5, 6, 7, 8, 9, 10, 11, 12, 13, 14, 15, 16, 17, 18, 19], identityPerm, identityPerm,
     #v[1, 2, 0, 3, 4, 5, 6, 7, 8, 9, 10, 11, 12, 13, 14, 15, 16, 17, 18, 19], swapTable 0 19]

def strafeH : StrafeTable :=
  #v[(⟨0, 0⟩, ⟨0, 0⟩), (⟨0, 1⟩, ⟨0, -1⟩), (⟨0, 0⟩, ⟨0, 0⟩), (⟨0, 0⟩, ⟨0, 0⟩), (⟨0, 1⟩, ⟨0, -1⟩), (⟨0, 0⟩, ⟨0, 0⟩)]

/-- Bytes for the opcodes of control flow whose byte is open (30_encoding.md R103): this file's choice, for testing only. -/
def mapControlFlow : OpcodeMap :=
  [(0x20, .mirrorSwNe), (0x21, .mirrorNwSe), (0x24, .mirrorWE), (0x25, .mirrorNS), (0x26, .strafe), (0x27, .skip),
   (0x28, .skipZ), (0x29, .iterate), (0x2A, .jump), (0x2C, .turnL), (0x2E, .turnR), (0x2F, .turnC)]

/-- Bytes for the opcodes of arithmetic and logic whose byte is open (30_encoding.md R103): this file's choice, for testing only. -/
def mapArithmeticAndLogic : OpcodeMap :=
  [(0x3A, .inc), (0x3B, .dec), (0x3C, .not), (0x3D, .neg), (0x3E, .mul), (0x3F, .div), (0x41, .mod), (0x42, .and),
   (0x43, .or), (0x44, .xor), (0x45, .bnot)]

/-- Bytes for the opcodes of stack whose byte is open (30_encoding.md R103): this file's choice, for testing only. -/
def mapStack : OpcodeMap :=
  [(0x46, .discard), (0x47, .dup), (0x48, .swap), (0x4A, .depth), (0x4B, .reverse), (0x4C, .rotl), (0x4D, .rotr)]

/-- Bytes for the opcodes of icosahedron rotations whose byte is open (30_encoding.md R103): this file's choice, for testing only. -/
def mapIcosahedronRotations : OpcodeMap :=
  [(0x4E, .rotEdgeNw), (0x50, .rotEdgeNe), (0x51, .rotEdgeS), (0x52, .rotEdgeNwN), (0x53, .rotEdgeNeSe),
   (0x54, .rotEdgeSSw), (0x55, .rotCornerN), (0x56, .rotCornerSe), (0x57, .rotCornerSw), (0x58, .rotFace),
   (0x59, .rotFlip), (0x5A, .roll), (0x5B, .rotCond), (0x5C, .rotRand), (0x5D, .pushFace)]

/-- Bytes for the opcodes of icosahedron data whose byte is open (30_encoding.md R103): this file's choice, for testing only. -/
def mapIcosahedronData : OpcodeMap :=
  [(0x5E, .store), (0x5F, .load)]

/-- Bytes for the opcodes of cursor whose byte is open (30_encoding.md R103): this file's choice, for testing only. -/
def mapCursor : OpcodeMap :=
  [(0x60, .cursorGet), (0x61, .cursorSet), (0x62, .cursorEnd), (0x63, .icoMoveW), (0x64, .icoMoveE),
   (0x65, .icoMoveNw), (0x66, .icoMoveNe), (0x67, .icoMoveSw), (0x68, .icoMoveSe)]

/-- Bytes for the opcodes of self-modifying grid operator whose byte is open (30_encoding.md R103): this file's choice, for testing only. -/
def mapSelfModifyingGridOperator : OpcodeMap :=
  [(0x69, .rotateCells)]

/-- Bytes for the opcodes of input and output whose byte is open (30_encoding.md R103): this file's choice, for testing only. -/
def mapInputAndOutput : OpcodeMap :=
  [(0x6A, .readByte), (0x6B, .writeByte), (0x6C, .writeNl)]

/-- Bytes for the opcodes of miscellaneous whose byte is open (30_encoding.md R103): this file's choice, for testing only. -/
def mapMiscellaneous : OpcodeMap :=
  [(0x6D, .nop), (0x6E, .debug)]

/-- A byte for every opcode that the spec leaves without one. -/
def testMap : OpcodeMap :=
  mapControlFlow ++ mapArithmeticAndLogic ++ mapStack ++ mapIcosahedronRotations ++ mapIcosahedronData ++ mapCursor ++ mapSelfModifyingGridOperator ++ mapInputAndOutput ++ mapMiscellaneous

def testParams : Params := { defaultParams with opcodeMap := testMap, rotTable := tableH, strafe := strafeH }

/-- A running core on the grid of the text with the given stack, the top first. -/
def core0 (text : List Byte) (stack : List Int) : State :=
  { State.resetWith { defaultLaunch with text := text, params := testParams } with runState := .running, stack := stack }

/-- The text `ABC\nDEF`: a 3 by 2 grid. -/
def text32 : List Byte := [0x41, 0x42, 0x43, 0x0A, 0x44, 0x45, 0x46]

def demo (stack : List Int) : State := core0 text32 stack

def run1 (x : Host.Outcome State Fault Refusal) : Option State :=
  match x with
  | .next t => some t
  | .fault _ => none
  | .refused _ => none

/-- The stack after one execution. -/
def stackAfter (i : Instr) (s : State) : Option (List Int) := (run1 (exec i s)).map State.stack

/-! ## Well-formedness: each check refuses an ill-formed term -/

theorem test_testParams_ok : testParams.ok = true := by decide
theorem test_wf_digit_range : Instr.wf (.digit 9) = true ∧ Instr.wf (.digit 10) = false := by decide
theorem test_map_refuses_low_byte : OpcodeMap.ok [(0x1F, .dup)] = false := by decide
theorem test_map_refuses_high_byte : OpcodeMap.ok [(0x7F, .dup)] = false := by decide
theorem test_map_refuses_fixed_byte : OpcodeMap.ok [(0x40, .dup)] = false := by decide
theorem test_map_refuses_digit : OpcodeMap.ok [(0x44, .digit 1)] = false := by decide
theorem test_map_refuses_two_opcodes : OpcodeMap.ok [(0x44, .dup), (0x44, .dec)] = false := by decide
theorem test_map_accepts_one_opcode_twice : OpcodeMap.ok [(0x44, .dup), (0x45, .dup)] = true := by decide

def constTable : PermTable := mapVec (fun _ => 0) identityPerm

theorem test_tables_refuse_no_bijection : RotTable.ok (tableH.set 6 constTable) = false := by decide
theorem test_tables_refuse_face_order : RotTable.ok (tableH.set 9 (swapTable 0 1)) = false := by decide
theorem test_tables_refuse_flip_order : RotTable.ok (tableH.set 10 tableH[6]) = false := by decide
theorem test_tables_refuse_edge_order : RotTable.ok (tableH.set 5 tableH[6]) = false := by decide
theorem test_strafe_refuses_vertical_diagonal : StrafeTable.ok (strafeH.set 0 (⟨0, 1⟩, ⟨0, 1⟩)) = false := by decide
theorem test_strafe_refuses_parity_diagonal : StrafeTable.ok (strafeH.set 5 (⟨1, 0⟩, ⟨2, 0⟩)) = false := by decide
theorem test_params_refuse_narrow_words : Params.ok { testParams with wordBits := 8 } = false := by decide
theorem test_params_refuse_wide_faces :
    Params.ok { testParams with wordBits := 9, initFaces := testParams.initFaces.set 0 256 } = false := by decide
theorem test_launch_refuses_wide_grid :
    Launch.ok { defaultLaunch with text := text32, params := { testParams with gridWMax := some 2 } } = false := by decide

/-! ## Decoding: the fixed bytes written out bit by bit (30_encoding.md R103, opcode_table.json) -/

theorem test_decode_string_toggle : decodeTableWord 64 0b00100010 = some .stringToggle := by rfl
theorem test_decode_push0 : decodeTableWord 64 0b00100011 = some .push0 := by rfl
theorem test_decode_add : decodeTableWord 64 0b00101011 = some .add := by rfl
theorem test_decode_sub : decodeTableWord 64 0b00101101 = some .sub := by rfl
theorem test_decode_digits :
    decodeTableWord 64 0b00110000 = some (.digit 0) ∧ decodeTableWord 64 0b00110001 = some (.digit 1) ∧
    decodeTableWord 64 0b00110010 = some (.digit 2) ∧ decodeTableWord 64 0b00110011 = some (.digit 3) ∧
    decodeTableWord 64 0b00110100 = some (.digit 4) ∧ decodeTableWord 64 0b00110101 = some (.digit 5) ∧
    decodeTableWord 64 0b00110110 = some (.digit 6) ∧ decodeTableWord 64 0b00110111 = some (.digit 7) ∧
    decodeTableWord 64 0b00111000 = some (.digit 8) ∧ decodeTableWord 64 0b00111001 = some (.digit 9) :=
  ⟨rfl, rfl, rfl, rfl, rfl, rfl, rfl, rfl, rfl, rfl⟩
theorem test_decode_terminate : decodeTableWord 64 0b01000000 = some .terminate := by rfl
theorem test_decode_read_int : decodeTableWord 64 0b01001001 = some .readInt := by rfl
theorem test_decode_print_int : decodeTableWord 64 0b01001111 = some .printInt := by rfl
/-- R102: the whole word decides, so a fixed byte with a further bit set is NOP. -/
theorem test_decode_whole_word : decodeTableWord 64 0x100000040 = some .nop ∧ decodeTableWord 64 0xFFFFFFFFFFFFFFFF = some .nop :=
  ⟨rfl, rfl⟩
/-- An opcode whose byte is open decodes from the byte that `OPCODE_MAP` gives it, and without one its byte is NOP (R103, R104). -/
theorem test_decode_needs_the_map : decode [(0x44, .dup)] 0x44 = .dup ∧ decode [] 0x44 = .nop := by decide

theorem test_decode_control_flow :
    decode testMap 0b00100000 = .mirrorSwNe ∧ decode testMap 0b00100001 = .mirrorNwSe ∧
    decode testMap 0b00100100 = .mirrorWE ∧ decode testMap 0b00100101 = .mirrorNS ∧
    decode testMap 0b00100110 = .strafe ∧ decode testMap 0b00100111 = .skip ∧ decode testMap 0b00101000 = .skipZ ∧
    decode testMap 0b00101001 = .iterate ∧ decode testMap 0b00101010 = .jump ∧ decode testMap 0b00101100 = .turnL ∧
    decode testMap 0b00101110 = .turnR ∧ decode testMap 0b00101111 = .turnC := by decide
theorem test_decode_arithmetic_and_logic :
    decode testMap 0b00111010 = .inc ∧ decode testMap 0b00111011 = .dec ∧ decode testMap 0b00111100 = .not ∧
    decode testMap 0b00111101 = .neg ∧ decode testMap 0b00111110 = .mul ∧ decode testMap 0b00111111 = .div ∧
    decode testMap 0b01000001 = .mod ∧ decode testMap 0b01000010 = .and ∧ decode testMap 0b01000011 = .or ∧
    decode testMap 0b01000100 = .xor ∧ decode testMap 0b01000101 = .bnot := by decide
theorem test_decode_stack :
    decode testMap 0b01000110 = .discard ∧ decode testMap 0b01000111 = .dup ∧ decode testMap 0b01001000 = .swap ∧
    decode testMap 0b01001010 = .depth ∧ decode testMap 0b01001011 = .reverse ∧ decode testMap 0b01001100 = .rotl ∧
    decode testMap 0b01001101 = .rotr := by decide
theorem test_decode_icosahedron_rotations :
    decode testMap 0b01001110 = .rotEdgeNw ∧ decode testMap 0b01010000 = .rotEdgeNe ∧
    decode testMap 0b01010001 = .rotEdgeS ∧ decode testMap 0b01010010 = .rotEdgeNwN ∧
    decode testMap 0b01010011 = .rotEdgeNeSe ∧ decode testMap 0b01010100 = .rotEdgeSSw ∧
    decode testMap 0b01010101 = .rotCornerN ∧ decode testMap 0b01010110 = .rotCornerSe ∧
    decode testMap 0b01010111 = .rotCornerSw ∧ decode testMap 0b01011000 = .rotFace ∧
    decode testMap 0b01011001 = .rotFlip ∧ decode testMap 0b01011010 = .roll ∧ decode testMap 0b01011011 = .rotCond ∧
    decode testMap 0b01011100 = .rotRand ∧ decode testMap 0b01011101 = .pushFace := by decide
theorem test_decode_icosahedron_data :
    decode testMap 0b01011110 = .store ∧ decode testMap 0b01011111 = .load := by decide
theorem test_decode_cursor :
    decode testMap 0b01100000 = .cursorGet ∧ decode testMap 0b01100001 = .cursorSet ∧
    decode testMap 0b01100010 = .cursorEnd ∧ decode testMap 0b01100011 = .icoMoveW ∧
    decode testMap 0b01100100 = .icoMoveE ∧ decode testMap 0b01100101 = .icoMoveNw ∧
    decode testMap 0b01100110 = .icoMoveNe ∧ decode testMap 0b01100111 = .icoMoveSw ∧
    decode testMap 0b01101000 = .icoMoveSe := by decide
theorem test_decode_self_modifying_grid_operator :
    decode testMap 0b01101001 = .rotateCells := by decide
theorem test_decode_input_and_output :
    decode testMap 0b01101010 = .readByte ∧ decode testMap 0b01101011 = .writeByte ∧ decode testMap 0b01101100 = .writeNl := by decide
theorem test_decode_miscellaneous :
    decode testMap 0b01101101 = .nop ∧ decode testMap 0b01101110 = .debug := by decide

/-- Every opcode of the map encodes, and its encoding decodes to it. -/
theorem test_encode_roundtrip :
    testMap.all (fun e => match encode testMap e.2 with | some w => decide (decode testMap w = e.2) | none => false) = true := by decide

/-! ## Single instructions, on the vectors of 95_test_vectors.md; the lists below have the top first -/

/-- V-AR1 -/
theorem test_push0 : stackAfter .push0 (demo []) = some [0] := by decide
/-- V-AR2 -/
theorem test_digit_negative : stackAfter (.digit 5) (demo [-3]) = some [-35] := by decide
/-- V-AR5 -/
theorem test_digit_wraps : stackAfter (.digit 8) (demo [922337203685477580]) = some [-9223372036854775808] := by decide
/-- V-AR6 -/
theorem test_inc_wraps : stackAfter .inc (demo [9223372036854775807]) = some [-9223372036854775808] := by decide
/-- V-AR7 -/
theorem test_dec_empty : stackAfter .dec (demo []) = some [-1] := by decide
/-- V-AR8 -/
theorem test_not_nonzero : stackAfter .not (demo [-7]) = some [0] := by decide
/-- V-AR9 -/
theorem test_not_empty : stackAfter .not (demo []) = some [1] := by decide
/-- V-AR10 -/
theorem test_neg_min : stackAfter .neg (demo [-9223372036854775808]) = some [-9223372036854775808] := by decide
/-- V-AR11 -/
theorem test_add_missing_operand : stackAfter .add (demo [5]) = some [5] := by decide
/-- V-AR12 -/
theorem test_sub_top_is_right : stackAfter .sub (demo [10, 3]) = some [-7] := by decide
/-- V-AR13 -/
theorem test_mul_wraps : stackAfter .mul (demo [-1, -9223372036854775808]) = some [-9223372036854775808] := by decide
/-- V-AR15 -/
theorem test_div_floor : stackAfter .div (demo [2, -7]) = some [-4] := by decide
/-- V-AR18 -/
theorem test_div_min_wraps : stackAfter .div (demo [-1, -9223372036854775808]) = some [-9223372036854775808] := by decide
/-- V-AR20 -/
theorem test_mod_negative_dividend : stackAfter .mod (demo [2, -7]) = some [1] := by decide
/-- V-AR21 -/
theorem test_mod_negative_divisor : stackAfter .mod (demo [-2, 7]) = some [-1] := by decide
/-- V-AR24 -/
theorem test_div_by_zero_faults :
    (run1 (exec .div (demo [0, 5]))).map (fun t => (t.stack, t.faultCode, t.runState)) = some ([], .divByZero, .faulted) := by decide
/-- V-AR26 -/
theorem test_and : stackAfter .and (demo [255, -1]) = some [255] := by decide
/-- V-AR27 -/
theorem test_or : stackAfter .or (demo [3, 6]) = some [7] := by decide
/-- V-AR28 -/
theorem test_xor : stackAfter .xor (demo [3, 6]) = some [5] := by decide
/-- V-AR29 -/
theorem test_bnot_zero : stackAfter .bnot (demo [0]) = some [-1] := by decide
/-- V-AR30 -/
theorem test_bnot_min : stackAfter .bnot (demo [-9223372036854775808]) = some [9223372036854775807] := by decide
/-- V-ST1 -/
theorem test_discard_empty : stackAfter .discard (demo []) = some [] := by decide
/-- V-ST2 -/
theorem test_dup_empty : stackAfter .dup (demo []) = some [0] := by decide
/-- V-ST3 -/
theorem test_dup : stackAfter .dup (demo [9, 4]) = some [9, 9, 4] := by decide
/-- V-ST4 -/
theorem test_swap : stackAfter .swap (demo [3, 2, 1]) = some [2, 3, 1] := by decide
/-- V-ST5 -/
theorem test_swap_one : stackAfter .swap (demo [7]) = some [0, 7] := by decide
/-- V-ST7 -/
theorem test_depth : stackAfter .depth (demo [7, 7]) = some [2, 7, 7] := by decide
/-- V-ST9 -/
theorem test_reverse : stackAfter .reverse (demo [3, 2, 1]) = some [1, 2, 3] := by decide
/-- V-ST10 -/
theorem test_rotl : stackAfter .rotl (demo [3, 2, 1]) = some [1, 3, 2] := by decide
/-- V-ST11 -/
theorem test_rotr : stackAfter .rotr (demo [3, 2, 1]) = some [2, 1, 3] := by decide
/-- V-CF1 -/
theorem test_mirror_sw_ne : (run1 (exec .mirrorSwNe { demo [] with dir := .e })).map State.dir = some .nw := by decide
/-- V-CF1 -/
theorem test_mirror_nw_se : (run1 (exec .mirrorNwSe { demo [] with dir := .e })).map State.dir = some .sw := by decide
/-- V-CF1 -/
theorem test_mirror_w_e : (run1 (exec .mirrorWE { demo [] with dir := .ne })).map State.dir = some .se := by decide
/-- V-CF1 -/
theorem test_mirror_n_s : (run1 (exec .mirrorNS { demo [] with dir := .e })).map State.dir = some .w := by decide
/-- V-CF2 -/
theorem test_turn_l : (run1 (exec .turnL { demo [] with dir := .e })).map State.dir = some .ne := by decide
/-- V-CF2 -/
theorem test_turn_r : (run1 (exec .turnR { demo [] with dir := .e })).map State.dir = some .se := by decide
/-- V-CF2 -/
theorem test_turn_c_zero : (run1 (exec .turnC { demo [0] with dir := .e })).map State.dir = some .ne := by decide
/-- V-CF2 -/
theorem test_turn_c_positive : (run1 (exec .turnC { demo [2] with dir := .e })).map State.dir = some .se := by decide
/-- R244: a second STRAFE cancels the first. -/
theorem test_strafe_toggles :
    (run1 (exec .strafe { demo [] with strafePending := true })).map State.strafePending = some false := by decide
/-- V-CF5 -/
theorem test_skip : (run1 (exec .skip (demo []))).map State.iter = some 0 := by decide
/-- V-CF6 -/
theorem test_skip_z_pops : (run1 (exec .skipZ (demo [0, 8]))).map (fun t => (t.stack, t.iter)) = some ([8], 0) := by decide
/-- V-CF6 -/
theorem test_skip_z_not : (run1 (exec .skipZ (demo [1]))).map (fun t => (t.stack, t.iter)) = some ([], 1) := by decide
/-- V-CF8 -/
theorem test_iterate :
    (run1 (exec .iterate (demo [2, 30, 20, 10]))).map (fun t => (t.stack, t.iter)) = some ([30, 20, 10], 2) := by decide
/-- V-CF8 -/
theorem test_iterate_negative : (run1 (exec .iterate (demo [-4]))).map State.iter = some 0 := by decide
/-- V-CF4 -/
theorem test_jump :
    (run1 (exec .jump { demo [-1, 5] with gw := 4 })).map (fun t => (t.stack, t.jumpTarget, t.jumpValid)) = some ([], ⟨1, 1⟩, true) := by decide
/-- V-ICO1 -/
theorem test_rot_edge_nw :
    (run1 (exec .rotEdgeNw (demo []))).map (fun t => t.idx.toList.take 7) = some [1, 0, 2, 3, 4, 5, 6] := by decide
/-- `T_H[edge_ne]` on the identity -/
theorem test_rot_edge_ne :
    (run1 (exec .rotEdgeNe (demo []))).map (fun t => t.idx.toList.take 7) = some [2, 1, 0, 3, 4, 5, 6] := by decide
/-- `T_H[edge_s]` -/
theorem test_rot_edge_s :
    (run1 (exec .rotEdgeS (demo []))).map (fun t => t.idx.toList.take 7) = some [3, 1, 2, 0, 4, 5, 6] := by decide
/-- `T_H[edge_nw_n]` -/
theorem test_rot_edge_nw_n :
    (run1 (exec .rotEdgeNwN (demo []))).map (fun t => t.idx.toList.take 7) = some [4, 1, 2, 3, 0, 5, 6] := by decide
/-- `T_H[edge_ne_se]` -/
theorem test_rot_edge_ne_se :
    (run1 (exec .rotEdgeNeSe (demo []))).map (fun t => t.idx.toList.take 7) = some [5, 1, 2, 3, 4, 0, 6] := by decide
/-- `T_H[edge_s_sw]` -/
theorem test_rot_edge_s_sw :
    (run1 (exec .rotEdgeSSw (demo []))).map (fun t => t.idx.toList.take 7) = some [6, 1, 2, 3, 4, 5, 0] := by decide
/-- V-ICO1 -/
theorem test_rot_corner_n :
    (run1 (exec .rotCornerN (demo []))).map (fun t => t.idx.toList.take 7) = some [1, 2, 3, 4, 0, 5, 6] := by decide
/-- `T_H[corner_se]` -/
theorem test_rot_corner_se :
    (run1 (exec .rotCornerSe (demo []))).map (fun t => t.idx.toList.take 7) = some [0, 1, 2, 3, 4, 5, 6] := by decide
/-- `T_H[corner_sw]` -/
theorem test_rot_corner_sw :
    (run1 (exec .rotCornerSw (demo []))).map (fun t => t.idx.toList.take 7) = some [0, 1, 2, 3, 4, 5, 6] := by decide
/-- V-ICO3 -/
theorem test_rot_face :
    (run1 (exec .rotFace (demo []))).map (fun t => t.idx.toList.take 7) = some [1, 2, 0, 3, 4, 5, 6] := by decide
/-- `T_H[flip]` -/
theorem test_rot_flip :
    (run1 (exec .rotFlip (demo []))).map (fun t => t.idx.toList.take 7) = some [19, 1, 2, 3, 4, 5, 6] := by decide
/-- V-ICO2 -/
theorem test_rotations_compose :
    (run1 (exec .rotEdgeNw (demo []))).bind (fun t => (run1 (exec .rotEdgeNe t)).map (fun u => u.idx.toList.take 4)) = some [2, 0, 1, 3] := by decide
/-- V-ICO8 -/
theorem test_roll :
    (run1 (exec .roll { demo [] with draws := [2, 1, 0, 1] })).map (fun t => (t.idx.toList.take 7, t.draws)) = some ([5, 4, 2, 0, 1, 3, 6], []) := by decide
/-- V-ICO6 -/
theorem test_rot_cond_negative :
    (run1 (exec .rotCond (demo [-5]))).map (fun t => t.idx.toList.take 7) = some [1, 0, 2, 3, 4, 5, 6] := by decide
/-- V-ICO6 -/
theorem test_rot_cond_empty :
    (run1 (exec .rotCond (demo []))).map (fun t => t.idx.toList.take 7) = some [3, 1, 2, 0, 4, 5, 6] := by decide
/-- V-ICO7 -/
theorem test_rot_rand :
    (run1 (exec .rotRand { demo [] with draws := [7, 1] })).map (fun t => (t.activeFace, t.draws)) = some (3, [1]) := by decide
/-- V-ICO1 -/
theorem test_push_face : (run1 (exec .rotEdgeNw (demo []))).bind (stackAfter .pushFace) = some [2] := by decide
/-- V-ICO5 -/
theorem test_store_set_mode :
    (run1 (exec .store { demo [9] with cmode := .set, icoPos := ⟨2, 0⟩ })).map (fun t => (t.faceRead 0, t.gridRead ⟨2, 0⟩)) = some (9, 9) := by decide
/-- V-ICO5: the bridge overwrites the stored word. -/
theorem test_store_get_mode :
    (run1 (exec .store { demo [9] with cmode := .get, icoPos := ⟨0, 0⟩ })).map (fun t => t.faceRead 0) = some 65 := by decide
/-- V-ICO5 -/
theorem test_load : (run1 (exec .store (demo [9]))).bind (stackAfter .load) = some [9] := by decide
/-- V-ICO9 -/
theorem test_cursor_get :
    (run1 (exec .cursorGet (demo [-1, 4]))).map (fun t => (t.icoPos, t.cmode, t.faceRead 0)) = some (⟨1, 1⟩, .get, 0) := by decide
/-- V-ICO9, for CURSOR_SET -/
theorem test_cursor_set :
    (run1 (exec .cursorSet (demo [-1, 4]))).map (fun t => (t.icoPos, t.cmode, t.gridRead ⟨1, 1⟩)) = some (⟨1, 1⟩, .set, 0x45) := by decide
/-- R340 -/
theorem test_cursor_end :
    (run1 (exec .cursorEnd { demo [] with cmode := .set, icoPos := ⟨2, 0⟩ })).map (fun t => (t.icoPos, t.cmode)) = some (⟨2, 0⟩, .none) := by decide
/-- V-ICO10; the Get bridge reads the new cell -/
theorem test_ico_move_e_up :
    (run1 (exec .icoMoveE { demo [] with cmode := .get, icoPos := ⟨0, 0⟩ })).map (fun t => (t.icoPos, t.activeFace, t.icoLoad)) = some (⟨1, 0⟩, 3, 66) := by decide
/-- V-ICO10; the Get bridge reads the new cell -/
theorem test_ico_move_e_down :
    (run1 (exec .icoMoveE { demo [] with cmode := .get, icoPos := ⟨1, 0⟩ })).map (fun t => (t.icoPos, t.activeFace, t.icoLoad)) = some (⟨2, 0⟩, 2, 67) := by decide
/-- V-ICO10; the Get bridge reads the new cell -/
theorem test_ico_move_w_up :
    (run1 (exec .icoMoveW { demo [] with cmode := .get, icoPos := ⟨2, 0⟩ })).map (fun t => (t.icoPos, t.activeFace, t.icoLoad)) = some (⟨1, 0⟩, 2, 66) := by decide
/-- V-ICO10; the Get bridge reads the new cell -/
theorem test_ico_move_w_down :
    (run1 (exec .icoMoveW { demo [] with cmode := .get, icoPos := ⟨1, 0⟩ })).map (fun t => (t.icoPos, t.activeFace, t.icoLoad)) = some (⟨0, 0⟩, 3, 65) := by decide
/-- V-ICO10; the Get bridge reads the new cell -/
theorem test_ico_move_nw_up :
    (run1 (exec .icoMoveNw { demo [] with cmode := .get, icoPos := ⟨1, 1⟩ })).map (fun t => (t.icoPos, t.activeFace, t.icoLoad)) = some (⟨0, 1⟩, 2, 68) := by decide
/-- V-ICO10; the Get bridge reads the new cell -/
theorem test_ico_move_nw_down :
    (run1 (exec .icoMoveNw { demo [] with cmode := .get, icoPos := ⟨0, 1⟩ })).map (fun t => (t.icoPos, t.activeFace, t.icoLoad)) = some (⟨0, 0⟩, 4, 65) := by decide
/-- V-ICO10; the Get bridge reads the new cell -/
theorem test_ico_move_ne_up :
    (run1 (exec .icoMoveNe { demo [] with cmode := .get, icoPos := ⟨0, 0⟩ })).map (fun t => (t.icoPos, t.activeFace, t.icoLoad)) = some (⟨1, 0⟩, 3, 66) := by decide
/-- V-ICO10; the Get bridge reads the new cell -/
theorem test_ico_move_ne_down :
    (run1 (exec .icoMoveNe { demo [] with cmode := .get, icoPos := ⟨0, 1⟩ })).map (fun t => (t.icoPos, t.activeFace, t.icoLoad)) = some (⟨0, 0⟩, 4, 65) := by decide
/-- V-ICO10; the Get bridge reads the new cell -/
theorem test_ico_move_sw_up :
    (run1 (exec .icoMoveSw { demo [] with cmode := .get, icoPos := ⟨0, 0⟩ })).map (fun t => (t.icoPos, t.activeFace, t.icoLoad)) = some (⟨0, 1⟩, 4, 68) := by decide
/-- V-ICO10; the Get bridge reads the new cell -/
theorem test_ico_move_sw_down :
    (run1 (exec .icoMoveSw { demo [] with cmode := .get, icoPos := ⟨1, 0⟩ })).map (fun t => (t.icoPos, t.activeFace, t.icoLoad)) = some (⟨0, 0⟩, 3, 65) := by decide
/-- V-ICO10; the Get bridge reads the new cell -/
theorem test_ico_move_se_up :
    (run1 (exec .icoMoveSe { demo [] with cmode := .get, icoPos := ⟨0, 0⟩ })).map (fun t => (t.icoPos, t.activeFace, t.icoLoad)) = some (⟨0, 1⟩, 4, 68) := by decide
/-- V-ICO10; the Get bridge reads the new cell -/
theorem test_ico_move_se_down :
    (run1 (exec .icoMoveSe { demo [] with cmode := .get, icoPos := ⟨1, 0⟩ })).map (fun t => (t.icoPos, t.activeFace, t.icoLoad)) = some (⟨2, 0⟩, 2, 67) := by decide
/-- V-RC1 -/
theorem test_rotate_cells :
    (run1 (exec .rotateCells (core0 text32 [0, 0, 1]))).map (fun t => t.grid.map Prod.snd) = some [0x44, 0x41, 0x42, 0x45, 0x46, 0x43] := by decide
/-- V-RC2 -/
theorem test_rotate_cells_negative :
    (run1 (exec .rotateCells (core0 text32 [0, 0, -1]))).map (fun t => t.grid.map Prod.snd) = some [0x42, 0x43, 0x46, 0x41, 0x44, 0x45] := by decide
/-- V-IO1 -/
theorem test_read_byte :
    (run1 (exec .readByte { demo [] with input := [0x41] })).map (fun t => (t.stack, t.input)) = some ([65], []) := by decide
/-- V-IO1 with R380: the slot is cleared. -/
theorem test_read_byte_end :
    (run1 (exec .readByte { demo [] with pushback := .eos })).map (fun t => (t.stack, t.pushback)) = some ([-1], .empty) := by decide
/-- V-IO8 -/
theorem test_write_byte_modulo : (run1 (exec .writeByte (demo [-1]))).map State.output = some [0xFF] := by decide
/-- V-IO7 -/
theorem test_write_nl : (run1 (exec .writeNl (demo []))).map State.output = some [0x0A] := by decide
/-- V-IO2 -/
theorem test_read_int_sign :
    (run1 (exec .readInt { demo [] with input := [0x2D, 0x35, 0x78] })).map (fun t => (t.stack, t.pushback, t.input)) = some ([-5], .byte 0x78, []) := by decide
/-- V-IO5 -/
theorem test_read_int_empty :
    (run1 (exec .readInt (demo []))).map (fun t => (t.stack, t.pushback)) = some ([0], .eos) := by decide
/-- V-IO9 -/
theorem test_print_int_zero : (run1 (exec .printInt (demo [0]))).map State.output = some [0x30] := by decide
/-- R385, R387 -/
theorem test_print_int_negative :
    (run1 (exec .printInt (demo [-120]))).map State.output = some [0x2D, 0x31, 0x32, 0x30] := by decide
/-- R410 -/
theorem test_string_toggle :
    (run1 (exec .stringToggle { demo [] with stringMode := true })).map State.stringMode = some false := by decide
/-- V-MI3 -/
theorem test_nop : run1 (exec .nop (demo [1])) = some (demo [1]) := by decide
/-- V-MI4 -/
theorem test_debug_level_one :
    (run1 (exec .debug { demo [] with debugLevel := 1 })).map (fun t => t.strobes.map Strobe.reason) = some [.request] := by decide
/-- X1 -/
theorem test_terminate : (run1 (exec .terminate (demo []))).map State.runResult = some (some false) := by decide

/-! ## One step of the core -/

/-- X1 -/
theorem test_step_terminate :
    (run1 (step (core0 [0x40] []))).map (fun t => (t.runState, t.tick, t.ip)) = some (.haltNormal, 0, ⟨0, 0⟩) := by decide
/-- X2, tick 0 -/
theorem test_step_digit_moves :
    (run1 (step (core0 [0x31, 0x32, 0x2B, 0x40] []))).map (fun t => (t.stack, t.ip, t.tick)) = some ([1], ⟨1, 0⟩, 1) := by decide
/-- V-MV6 -/
theorem test_step_start_empty : (run1 (step State.reset)).map State.runResult = some (some false) := by decide
/-- V-MV5 -/
theorem test_step_cap_first :
    (run1 (step { core0 [0x40] [] with maxTicks := 0 })).map (fun t => (t.runResult, t.tick)) = some (some true, 0) := by decide
/-- V-CF8 -/
theorem test_step_iterates :
    (run1 (step { core0 [0x2B, 0x40] [30, 20, 10] with iter := 2 })).map (fun t => (t.stack, t.iter)) = some ([60], 1) := by decide
/-- V-CF7, tick 5 -/
theorem test_step_string_raw :
    (run1 (step { core0 [0x40, 0x40] [] with stringMode := true })).map (fun t => (t.stack, t.runState)) = some ([64], .running) := by decide
/-- The placed word is the one that runs. -/
theorem test_step_placed_word : (run1 (step (State.reset.withFetchWord 64 0x35))).map State.stack = some [5] := by decide
/-- V-MV1, first row -/
theorem test_move_three_tries :
    (run1 (moveAndCount { core0 [0x41, 0x41, 0x41, 0x41, 0x0A, 0x41] [] with ip := ⟨3, 0⟩, dir := .e })).map (fun t => (t.ip, t.dir)) = some (⟨2, 0⟩, .sw) := by decide
/-- V-MV1, fourth row -/
theorem test_move_reflects_once :
    (run1 (moveAndCount { core0 [0x41, 0x41, 0x41, 0x41, 0x0A, 0x41] [] with ip := ⟨0, 1⟩, dir := .sw })).map (fun t => (t.ip, t.dir)) = some (⟨1, 1⟩, .e) := by decide
/-- V-MV3 -/
theorem test_move_strafe :
    (run1 (moveAndCount { demo [] with strafePending := true })).map (fun t => (t.ip, t.strafePending)) = some (⟨0, 1⟩, false) := by decide
/-- V-MV4 -/
theorem test_move_isolated_fault :
    (run1 (moveAndCount { core0 [0x31] [] with params := { testParams with isolated := .fault } })).map (fun t => (t.faultCode, t.tick)) = some (.noMove, 0) := by decide
/-- After V-MV7: the final line feed adds no line. -/
theorem test_loader_pads :
    (loadText [0x31, 0x32, 0x2B, 0x0A, 0x23, 0x0A]) = ⟨3, 2, [(⟨0, 0⟩, 0x31), (⟨1, 0⟩, 0x32), (⟨2, 0⟩, 0x2B), (⟨0, 1⟩, 0x23)]⟩ := by decide

/-! ## Witnesses: for every statement with hypotheses, states and operands that meet them, clause by clause -/

/-- The demo grid with a cursor and draws. -/
def demoAt (stack : List Int) (m : CursorMode) (c : Coord) (draws : List Nat) : State :=
  { demo stack with cmode := m, icoPos := c, draws := draws }

/-- Such a state is sound when its words are words and its cursor is in the grid. -/
theorem demoAt_inv (stack : List Int) (m : CursorMode) (c : Coord) (draws : List Nat) (hs : ∀ v ∈ stack, InRange 64 v)
    (hc : m ≠ .none → 0 ≤ c.x ∧ c.x < 3 ∧ 0 ≤ c.y ∧ c.y < 2) : Inv (demoAt stack m c draws) where
  params := test_testParams_ok
  fits := rfl
  gridForm := show Memory.wf 3 2 (demo []).grid = true by decide
  gridWords := show ∀ e ∈ (demo []).grid, InRange 64 e.2 by decide
  stackWords := hs
  faceWords := show ∀ v ∈ (demo []).faces.toList, InRange 64 v by decide
  stackBound := fun _ h => nomatch h
  idxBijection := show (demo []).idx.toList.Nodup by decide
  iterWord := show ((1 : Nat) : Int) ≤ maxWord 64 by decide
  cursor := hc
  stringIter := fun h => nomatch h
  settled := fun _ => ⟨rfl, rfl, fun _ _ => show (demo []).InBounds ⟨0, 0⟩ by decide⟩
  nonempty := fun _ => show 0 < 3 ∧ 0 < 2 by decide
  faultCode := show FaultCode.none ≠ .none ↔ RunState.running = .faulted by decide
  notReserved := show FaultCode.none ≠ .programError by decide
  notInvariant := show FaultCode.none ≠ .invariant by decide

def launch32 : Launch := { defaultLaunch with text := text32, params := testParams }

/-- A running core whose first cell is the instruction with byte `b` in a row of two cells. -/
def atByte (b : Byte) (stack : List Int) : State := core0 [b, 0x20] stack

/-- The state after `k` executions of one instruction. -/
def execN (i : Instr) : Nat → State → State
  | 0, s => s
  | k + 1, s => (run1 (exec i (execN i k s))).getD s

/-- Whether an outcome is this next state. -/
theorem next_of_run1 {x : Host.Outcome State Fault Refusal} {t : State} (h : run1 x = some t) : x = .next t := by
  cases x <;> simp_all [run1]

theorem witness_EveryLaunchMeetsInvariant : launch32.ok = true ∧ Launch.ok { launch32 with text := [] } = true := by decide

theorem witness_StepKeepsInvariant : Inv (demoAt [5] .set ⟨2, 1⟩ [7]) ∧ ∃ t, step (demoAt [5] .set ⟨2, 1⟩ [7]) = .next t :=
  ⟨demoAt_inv _ _ _ _ (by decide) (by decide), _, next_of_run1 (Option.eq_some_of_isSome (by decide))⟩

theorem witness_SoundStateAlwaysSteps : Inv (demoAt [5] .get ⟨0, 0⟩ []) := demoAt_inv _ _ _ _ (by decide) (by decide)

theorem witness_StepKeepsConfiguration : ∃ t, step (atByte 0x31 []) = .next t :=
  ⟨_, next_of_run1 (Option.eq_some_of_isSome (by decide))⟩

/-- A tick that completes, one that halts and one that reaches the cap. -/
theorem witness_TickCountsCompletedTicks :
    (atByte 0x31 []).runState = .running ∧ (run1 (step (atByte 0x31 []))).map State.runState = some .running ∧
    (run1 (step (atByte 0x40 []))).map State.runState = some .haltNormal ∧
    (run1 (step { atByte 0x31 [] with maxTicks := 0 })).map State.runState = some .haltCapped := by decide

theorem witness_HaltedCoreIsConstant :
    ({ demo [] with runState := .haltNormal } : State).runState = .haltNormal ∧
    ({ demo [] with runState := .haltCapped } : State).runState = .haltCapped ∧
    ((demo []).raised .noMove).runState = .faulted := by decide

/-- A grid without rows, one without columns, and the smallest grid that runs. -/
theorem witness_EmptyGridHaltsBeforeAnyTick :
    State.reset.runState = .idle ∧ State.reset.gh = 0 ∧ (loadText []).gh = 0 ∧
    (loadText [0x0A]).gh = 1 ∧ (loadText [0x0A]).gw = 0 ∧
    (State.resetWith { launch32 with text := [0x31] }).runState = .idle ∧
    (State.resetWith { launch32 with text := [0x31] }).gw = 1 ∧ (State.resetWith { launch32 with text := [0x31] }).gh = 1 := by decide

theorem witness_CapStopsTheRunFirst :
    (atByte 0x40 []).runState = .running ∧ ({ atByte 0x40 [] with maxTicks := 0 } : State).Capped ∧
    ({ atByte 0x40 [] with maxTicks := 3, tick := 3 } : State).Capped ∧ ¬ ({ atByte 0x40 [] with maxTicks := 3, tick := 2 } : State).Capped := by
  decide

/-- A sound cell, a halting one, and an unsound cursor that makes the execution fail. -/
theorem witness_StepRunsDecodedInstruction :
    ((atByte 0x2B [2, 1]).runState = .running ∧ ¬ (atByte 0x2B [2, 1]).Capped ∧ (atByte 0x2B [2, 1]).stringMode = false) ∧
    (atByte 0x2B [2, 1]).iter = 1 ∧ decode testMap ((atByte 0x2B [2, 1]).gridRead ⟨0, 0⟩) = .add ∧ Instr.wf .add = true ∧
    (run1 (exec .add (atByte 0x2B [2, 1]).decodedStart)).map State.runState = some .running ∧
    (run1 (exec .terminate (atByte 0x40 []).decodedStart)).map State.runState = some .haltNormal ∧
    decode testMap ((atByte 0x5E [1]).gridRead ⟨0, 0⟩) = .store ∧
    (match exec .store ({ atByte 0x5E [1] with cmode := .set, icoPos := ⟨-1, 0⟩ } : State).decodedStart with
      | .fault f => decide (f = .gridWriteOutOfBounds) | _ => false) = true := by decide

/-- A count of 3 and a count of 0. -/
theorem witness_IterateCountRepeatsLatchedOpcode :
    (∀ k, k < 3 → exec (decode testMap ((atByte 0x31 []).gridRead ⟨0, 0⟩)) (execN (.digit 1) k (atByte 0x31 [])) =
        .next (execN (.digit 1) (k + 1) (atByte 0x31 [])) ∧ (execN (.digit 1) (k + 1) (atByte 0x31 [])).runState = .running) ∧
    ({ atByte 0x31 [] with iter := 3 } : State).decodedStart = execN (.digit 1) 0 (atByte 0x31 []) ∧
    ({ atByte 0x31 [] with iter := 3 } : State).Decodes ∧ ({ atByte 0x31 [] with iter := 0 } : State).Decodes := by
  refine ⟨fun k hk => ?_, by decide, by unfold State.Decodes; decide, by unfold State.Decodes; decide⟩
  interval_cases k <;> exact ⟨next_of_run1 (by decide), by decide⟩

/-- The second of three divisions has a zero divisor. -/
theorem witness_StoppedExecutionEndsTick :
    ({ atByte 0x3F [2, 6, 0, 0] with iter := 3 } : State).Decodes ∧
    decode testMap ((atByte 0x3F []).gridRead ⟨0, 0⟩) = .div ∧
    (run1 (exec .div (atByte 0x3F [2, 6, 0, 0]))).map (fun t => (t.stack, t.runState)) = some ([3, 0, 0], .running) ∧
    (run1 (exec .div (atByte 0x3F [0, 0]))).map State.runState = some .faulted := by
  refine ⟨by unfold State.Decodes; decide, by decide, by decide, by decide⟩

theorem witness_TerminateHaltsUnlessSkipped :
    (atByte 0x40 []).Decodes ∧ (atByte 0x40 []).gridRead (atByte 0x40 []).ip = 0x40 ∧ 0 < (atByte 0x40 []).iter ∧
    ({ atByte 0x40 [] with iter := 0 } : State).Decodes := by
  unfold State.Decodes; decide

/-- A core in string mode on a cell `b`, with stack `l` and a stack bound. -/
def inString (b : Byte) (l : List Int) (bound : Option Nat) : State :=
  { atByte b l with stringMode := true, params := { testParams with stackMax := bound } }

/-- In string mode: the quote, another cell with room, another cell on a full stack. -/
theorem witness_StringModePushesRawCells :
    (∀ c ∈ [((0x22 : Byte), (none : Option Nat)), (0x23, none), (0x23, some 1)],
      (inString c.1 [7] c.2).runState = .running ∧ ¬ (inString c.1 [7] c.2).Capped ∧ (inString c.1 [7] c.2).stringMode = true) ∧
    (inString 0x22 [7] none).gridRead (inString 0x22 [7] none).ip = 0x22 ∧
    ((inString 0x23 [7] none).gridRead (inString 0x23 [7] none).ip ≠ 0x22 ∧ (inString 0x23 [7] none).roomAfter 0) ∧
    (inString 0x23 [7] (some 1)).gridRead (inString 0x23 [7] (some 1)).ip ≠ 0x22 ∧ ¬ (inString 0x23 [7] (some 1)).roomAfter 0 := by
  unfold State.roomAfter; decide

theorem witness_DebugHookOnlyStrobes :
    2 ≤ ({ demo [] with debugLevel := 2 } : State).debugLevel.toNat ∧ ({ demo [] with debugLevel := 1 } : State).debugLevel.toNat < 2 := by decide

theorem witness_NoExecutionMovesOrCounts : ∃ t, exec .jump (demo [1, 1]) = .next t :=
  ⟨_, next_of_run1 (Option.eq_some_of_isSome (by decide))⟩

/-- A grid, a face and an index that change, by the opcode itself and by the bridge after another. -/
theorem witness_OnlyNamedOpcodesWriteStorage :
    (run1 (exec .rotateCells (demo [0, 0, 1]))).map (fun t => decide (t.grid ≠ (demo []).grid)) = some true ∧
    (run1 (exec .store (demo [9]))).map (fun t => decide (t.faces ≠ (demo []).faces)) = some true ∧
    (run1 (exec .rotFlip (demo []))).map (fun t => decide (t.idx ≠ (demo []).idx)) = some true ∧
    (run1 (exec .store (demoAt [9] .set ⟨0, 0⟩ []))).map (fun t => decide (t.grid ≠ (demo []).grid)) = some true ∧
    (run1 (exec .rotFlip (demoAt [] .get ⟨0, 0⟩ []))).map (fun t => decide (t.faces ≠ (demo []).faces)) = some true := by decide

/-- A pending jump, a strafe in bounds, a strafe out of bounds, a move that faults. -/
theorem witness_JumpThenStrafeThenStep :
    ({ demo [] with jumpValid := true } : State).jumpValid = true ∧
    ({ demo [] with strafePending := true } : State).InBounds (strafeFrom strafeH .e ⟨0, 0⟩) ∧
    ¬ ({ demo [] with strafePending := true, ip := ⟨1, 0⟩ } : State).InBounds (strafeFrom strafeH .e ⟨1, 0⟩) ∧
    move { core0 [0x31] [] with params := { testParams with isolated := .fault } } =
      .stop (State.raised .noMove { core0 [0x31] [] with params := { testParams with isolated := .fault } }) := by decide

/-- No reflection, one, and two. -/
theorem witness_ThreeTriesMatchUnboundedReflection :
    (demo []).jumpValid = false ∧ (demo []).strafePending = false ∧ (demo []).InBounds ⟨2, 0⟩ ∧
    (demo []).InBounds (stepFrom .w ⟨2, 0⟩) ∧
    (¬ (demo []).InBounds (stepFrom .e ⟨2, 0⟩) ∧ (demo []).InBounds (stepFrom (reflectBoundary .e ⟨2, 0⟩) ⟨2, 0⟩)) ∧
    (¬ (core0 [0x41, 0x41, 0x41, 0x41, 0x0A, 0x41] []).InBounds (stepFrom .e ⟨3, 0⟩) ∧ ¬ (core0 [0x41, 0x41, 0x41, 0x41, 0x0A, 0x41] []).InBounds (stepFrom (reflectBoundary .e ⟨3, 0⟩) ⟨3, 0⟩) ∧
      (core0 [0x41, 0x41, 0x41, 0x41, 0x0A, 0x41] []).InBounds (stepFrom (reflectBoundary (reflectBoundary .e ⟨3, 0⟩) ⟨3, 0⟩) ⟨3, 0⟩)) := by decide

/-- The 1 by 1 grid, the last upward cell of a 1 by 3 grid, and the cell above it, which is not isolated. -/
theorem witness_IsolatedCellFollowsPolicy :
    ((core0 [0x31] []).gw = 1 ∧ (core0 [0x31] []).gh = 1 ∧ (core0 [0x31] []).InBounds ⟨0, 0⟩) ∧
    ((core0 [0x31, 0x0A, 0x31, 0x0A, 0x31] []).gw = 1 ∧ (core0 [0x31, 0x0A, 0x31, 0x0A, 0x31] []).gh = 3 ∧
      (core0 [0x31, 0x0A, 0x31, 0x0A, 0x31] []).InBounds ⟨0, 2⟩ ∧ (2 : Int) ∣ 2 ∧ ¬ (1 : Int) = 3 - 1) := by decide

theorem witness_StepLandsOnEdgeNeighbour : (2 : Int) ∣ 1 + -1 ∧ ¬ (2 : Int) ∣ 0 + -1 := by decide

/-- A fixed byte, a byte of the map, and NOP's padding value under a map without it. -/
theorem witness_DecodeInvertsEncode :
    OpcodeMap.ok testMap = true ∧ Instr.wf (.digit 9) = true ∧ encode testMap (.digit 9) = some 0x39 ∧
    encode testMap .mirrorSwNe = some 0x20 ∧ encode [] .nop = some 0 ∧ OpcodeMap.ok [] = true := by decide

theorem witness_DecodeReadsOnlyAssignedBytes :
    OpcodeMap.ok testMap = true ∧ fixedByteOf .add = some 0x2B ∧ (0x20, Instr.mirrorSwNe) ∈ testMap ∧ Instr.mirrorSwNe ≠ .nop := by decide

/-- The last digit. -/
theorem witness_FixedBytesDecode : 9 < 10 ∧ (0x30 + ((9 : Nat) : Int)) = 0x39 := by decide

theorem witness_WrapIsTheCongruentWord : 0 < 1 ∧ wrap 1 3 = -1 ∧ wrap 64 (2 ^ 63) = -2 ^ 63 := by decide

theorem witness_AddSubMulPushTheWrappedResult : 0 < (demo [2, 1]).params.wordBits ∧ (demo [2, 1]).roomAfter 2 := by
  unfold State.roomAfter; decide

/-- The last place of a bounded stack: two operands leave it free. -/
theorem witness_AddSubMulPushTheWrappedResult_full :
    0 < ({ demo [2, 1] with params := { testParams with stackMax := some 2 } } : State).params.wordBits ∧
    ({ demo [2, 1] with params := { testParams with stackMax := some 2 } } : State).roomAfter 2 := by
  unfold State.roomAfter; decide

theorem witness_IncDecNegPushTheWrappedResult : 0 < (demo []).params.wordBits ∧ (demo []).roomAfter 1 := by
  unfold State.roomAfter; decide

/-- The accumulators 0 and -1. -/
theorem witness_DigitExtendsTheAccumulator :
    0 < (demo [0]).params.wordBits ∧ (demo [0]).roomAfter 1 ∧ 0 ≤ (demo [0]).operand 0 ∧ (demo [-1]).roomAfter 1 ∧ (demo [-1]).operand 0 < 0 := by
  unfold State.roomAfter; decide

theorem witness_DivModPushFloorQuotientAndRemainder :
    0 < (demo [-2, 7]).params.wordBits ∧ (demo [-2, 7]).roomAfter 2 ∧ (demo [-2, 7]).operand 0 ≠ 0 := by
  unfold State.roomAfter; decide

/-- A zero on the stack, and an empty stack. -/
theorem witness_ZeroDivisorFaults : (demo [0, 5]).operand 0 = 0 ∧ (demo []).operand 0 = 0 := by decide

theorem witness_BitwiseOpcodesActOnEveryBit :
    0 < (demo [3, 6]).params.wordBits ∧ (demo [3, 6]).roomAfter 2 ∧ (demo [3, 6]).roomAfter 1 ∧ 63 < (demo []).params.wordBits := by
  unfold State.roomAfter; decide

theorem witness_PushingOpcodesPushTheirValue : 9 ≤ (demo []).params.wordBits ∧ (demo []).roomAfter 0 ∧ (demo []).roomAfter 1 := by
  unfold State.roomAfter; decide

/-- The demo core with a stack bound. -/
def bounded (l : List Int) (bound : Nat) : State := { demo l with params := { testParams with stackMax := some bound } }

/-- A full stack for an opcode that pops nothing, stacks of room 0 for one and for two pops, a division with a divisor, and SWAP's
second push on the empty stack and on one word. -/
theorem witness_PushOnFullStackFaults :
    (popsBeforePush .push0 = some 0 ∧ (bounded [1, 2] 2).params.stackMax = some ((bounded [1, 2] 2).stack.length - 0)) ∧
    (popsBeforePush .inc = some 1 ∧ (bounded [] 0).params.stackMax = some ((bounded [] 0).stack.length - 1)) ∧
    (popsBeforePush .add = some 2 ∧ (bounded [] 0).params.stackMax = some ((bounded [] 0).stack.length - 2)) ∧
    ((bounded [3] 0).operand 0 ≠ 0 ∧ (bounded [3] 0).params.stackMax = some ((bounded [3] 0).stack.length - 2)) ∧
    (bounded [] 1).params.stackMax = some ((bounded [] 1).stack.length - 2 + 1) ∧
    (bounded [7] 1).params.stackMax = some ((bounded [7] 1).stack.length - 2 + 1) := by decide

/-- R302 with R434 and R441: the first push of SWAP stays when the second one faults. -/
theorem test_swap_overflows_late :
    (run1 (exec .swap (bounded [7] 1))).map (fun t => (t.stack, t.faultCode)) = some ([7], .stackOverflow) := by decide

theorem witness_StackOpcodesRearrange :
    (demo []).stack = [] ∧ (demo [3, 2, 1]).stack.reverse = 1 :: [2, 3] ∧ (demo [3, 2, 1]).stack.reverse = [1, 2] ++ [3] ∧
    (demo [7]).roomAfter 2 ∧ (demo [7]).params.stackMax ≠ some ((demo [7]).stack.length - 2 + 1) := by
  unfold State.roomAfter; decide

theorem witness_StackOpcodesUndoEachOther : (demo []).roomAfter 0 ∧ (demo [3, 2, 1]).runState = .running := by
  unfold State.roomAfter; decide

theorem witness_MirrorsReflectAcrossTheirAxis :
    (Instr.mirrorNS, (90 : Int)) ∈ [(Instr.mirrorSwNe, (60 : Int)), (.mirrorNwSe, 120), (.mirrorWE, 0), (.mirrorNS, 90)] := by decide

theorem witness_TurnsRotateBySixtyDegrees : (demo [0]).operand 0 ≤ 0 ∧ 0 < (demo [1]).operand 0 := by decide

theorem witness_StrafeAndCountOpcodes : (demo []).operand 0 = 0 ∧ (demo [-1]).operand 0 ≠ 0 := by decide

theorem witness_PoppedCoordinatesWrapIntoTheGrid : 0 < (core0 [0x31] []).gw ∧ 0 < (core0 [0x31] []).gh := by decide

theorem witness_NamedRotationsPermuteThenBridge :
    Inv (demoAt [] .set ⟨2, 1⟩ []) ∧ namedRotation .rotFlip = some .flip := ⟨demoAt_inv _ _ _ _ (by decide) (by decide), rfl⟩

/-- The signs at -1, 0 and 1. -/
theorem witness_ConditionalRotationFollowsTheSign :
    (Inv (demoAt [-1] .get ⟨0, 0⟩ []) ∧ (demoAt [-1] .get ⟨0, 0⟩ []).operand 0 < 0) ∧
    (Inv (demoAt [] .get ⟨0, 0⟩ []) ∧ (demoAt [] .get ⟨0, 0⟩ []).operand 0 = 0) ∧
    (Inv (demoAt [1] .get ⟨0, 0⟩ []) ∧ 0 < (demoAt [1] .get ⟨0, 0⟩ []).operand 0) :=
  ⟨⟨demoAt_inv _ _ _ _ (by decide) (by decide), by decide⟩, ⟨demoAt_inv _ _ _ _ (by decide) (by decide), by decide⟩,
   ⟨demoAt_inv _ _ _ _ (by decide) (by decide), by decide⟩⟩

/-- With a listed draw and without one. -/
theorem witness_RandomRotationUsesOneDraw :
    Inv (demoAt [] .none ⟨0, 0⟩ [7]) ∧ (demoAt [] .none ⟨0, 0⟩ [7]).draws = [7] ∧ Inv (demoAt [] .none ⟨0, 0⟩ []) :=
  ⟨demoAt_inv _ _ _ _ (by decide) (by decide), rfl, demoAt_inv _ _ _ _ (by decide) (by decide)⟩

/-- Four listed draws, and one. -/
theorem witness_RollAppliesItsFourDraws :
    (Inv (demoAt [] .set ⟨0, 0⟩ [2, 1, 0, 1]) ∧ (demoAt [] .set ⟨0, 0⟩ [2, 1, 0, 1]).draws[3]? = some 1 ∧
      4 ≤ (demoAt [] .set ⟨0, 0⟩ [2, 1, 0, 1]).draws.length) ∧
    (Inv (demoAt [] .set ⟨0, 0⟩ [7]) ∧ (demoAt [] .set ⟨0, 0⟩ [7]).draws[0]? = some 7) :=
  ⟨⟨demoAt_inv _ _ _ _ (by decide) (by decide), rfl, by decide⟩, demoAt_inv _ _ _ _ (by decide) (by decide), rfl⟩

theorem witness_RotationOrdersRestoreTheState : Inv (demoAt [] .none ⟨0, 0⟩ []) ∧ (demoAt [] .none ⟨0, 0⟩ []).cmode = .none :=
  ⟨demoAt_inv _ _ _ _ (by decide) (by decide), rfl⟩

/-- A core whose `corner_n` table is constant. -/
theorem witness_BadTableRaisesInvariant :
    namedRotation .rotCornerN = some .cornerN ∧ (0 : Fin 20) ≠ 1 ∧
    (demo []).idx[(tableH.set 6 constTable)[rotationIndex .cornerN][(0 : Fin 20)]] =
      (demo []).idx[(tableH.set 6 constTable)[rotationIndex .cornerN][(1 : Fin 20)]] := by decide

theorem witness_StoreWritesTheActiveFace :
    Inv (demoAt [9] .none ⟨0, 0⟩ []) ∧ (demoAt [9] .none ⟨0, 0⟩ []).cmode = .none ∧ (demoAt [9] .none ⟨0, 0⟩ []).roomAfter 1 :=
  ⟨demoAt_inv _ _ _ _ (by decide) (by decide), rfl, by unfold State.roomAfter; decide⟩

/-- No cursor, a target just outside the grid, a target inside. -/
theorem witness_CursorMovesRollTheIcosahedron :
    Inv (demoAt [] .none ⟨0, 0⟩ []) ∧ cursorMoveDir .icoMoveE = some .e ∧
    (Inv (demoAt [] .get ⟨2, 0⟩ []) ∧ ¬ (demoAt [] .get ⟨2, 0⟩ []).InBounds (stepFrom .e ⟨2, 0⟩)) ∧
    (Inv (demoAt [] .set ⟨1, 0⟩ []) ∧ (demoAt [] .set ⟨1, 0⟩ []).InBounds (stepFrom .e ⟨1, 0⟩)) :=
  ⟨demoAt_inv _ _ _ _ (by decide) (by decide), rfl, ⟨demoAt_inv _ _ _ _ (by decide) (by decide), by decide⟩,
   ⟨demoAt_inv _ _ _ _ (by decide) (by decide), by decide⟩⟩

/-- The block fills the 3 by 2 grid, so each bound is met with equality; the turn is by -1. -/
theorem witness_RotateCellsTurnsTheHexagon :
    Inv (demoAt [0, 0, -1] .set ⟨2, 1⟩ []) ∧ (0 : Int) = 2 * (demoAt [0, 0, -1] .set ⟨2, 1⟩ []).operand 1 + (demoAt [0, 0, -1] .set ⟨2, 1⟩ []).operand 0 % 2 ∧
    5 < 6 ∧ (6 : Int) ∣ ((5 : Nat) : Int) - (demoAt [0, 0, -1] .set ⟨2, 1⟩ []).operand 2 ∧ (0 : Int) + 2 ≤ ((demo []).gw : Int) - 1 ∧
    (demoAt [0, 0, -1] .set ⟨2, 1⟩ []).operand 0 + 1 ≤ ((demo []).gh : Int) - 1 :=
  ⟨demoAt_inv _ _ _ _ (by decide) (by decide), by decide, by decide, by decide, by decide, by decide⟩

/-- One past each of the four bounds: left, right, top and bottom. -/
theorem witness_RotateCellsOutOfBoundsOnlyPops :
    ((-2 : Int) = 2 * (demo [0, -1, 1]).operand 1 + (demo [0, -1, 1]).operand 0 % 2 ∧ ¬ (0 : Int) ≤ -2) ∧
    ((2 : Int) = 2 * (demo [0, 1, 1]).operand 1 + (demo [0, 1, 1]).operand 0 % 2 ∧ ¬ (2 : Int) + 2 ≤ ((demo []).gw : Int) - 1) ∧
    ((1 : Int) = 2 * (demo [-1, 0, 1]).operand 1 + (demo [-1, 0, 1]).operand 0 % 2 ∧ ¬ 0 ≤ (demo [-1, 0, 1]).operand 0) ∧
    ((1 : Int) = 2 * (demo [1, 0, 1]).operand 1 + (demo [1, 0, 1]).operand 0 % 2 ∧
      ¬ (demo [1, 0, 1]).operand 0 + 1 ≤ ((demo []).gh : Int) - 1) := by decide

/-- A byte and the end in the slot, a byte and the end of the stream, a full stack with the slot taken and with it empty. -/
theorem witness_ReadByteServesPushbackFirst :
    9 ≤ (demo []).params.wordBits ∧ (demo []).roomAfter 0 ∧ ({ demo [] with pushback := .byte 0xFF } : State).pushback = .byte 0xFF ∧
    ({ demo [] with pushback := .eos } : State).pushback = .eos ∧ ({ demo [] with input := [0x00] } : State).input = 0x00 :: [] ∧
    (demo []).pushback = .empty ∧ (demo []).input = [] ∧ 9 ≤ (bounded [] 0).params.wordBits ∧
    (¬ ({ bounded [] 0 with pushback := .eos } : State).roomAfter 0 ∧ ({ bounded [] 0 with pushback := .eos } : State).pushback ≠ .empty) ∧
    (¬ (bounded [] 0).roomAfter 0 ∧ (bounded [] 0).pushback = .empty) := by
  unfold State.roomAfter; decide

/-- The end in the slot; `-12x` with its sign in the slot; no sign and no digit before a space; the empty stream; a
full stack. -/
theorem witness_ReadIntParsesSignAndDigits :
    0 < (demo []).params.wordBits ∧ (demo []).roomAfter 0 ∧ ({ demo [] with pushback := .eos } : State).pushback = .eos ∧
    ({ demo [] with pushback := .byte 0x2D, input := [0x31, 0x32, 0x78] } : State).pending = [0x2D#8] ++ [0x31, 0x32] ++ [0x78] ∧
    ((∀ b ∈ [(0x31 : Byte), 0x32], 0x30 ≤ b.toNat ∧ b.toNat ≤ 0x39) ∧ ¬ (0x30 ≤ (0x78 : Byte).toNat ∧ (0x78 : Byte).toNat ≤ 0x39)) ∧
    ({ demo [] with input := [0x20] } : State).pending = [] ++ [] ++ [0x20] ∧ (0x20 : Byte) ≠ 0x2B#8 ∧ (0x20 : Byte) ≠ 0x2D#8 ∧
    (demo []).pending = [] ++ [] ++ [] ∧
    (¬ (bounded [] 0).roomAfter 0 ∧ (bounded [] 0).pending = [] ++ [] ++ [] ∧ 0 < (bounded [] 0).params.wordBits) ∧
    ¬ ({ bounded [] 0 with pushback := .eos } : State).roomAfter 0 := by
  unfold State.roomAfter; decide

/-- The smallest word: `-256` at 9 bits. -/
theorem witness_ReadIntInvertsPrintInt :
    0 < 9 ∧ InRange 9 (-256) ∧ ({ demo [-256] with params := { testParams with wordBits := 9 } } : State).roomAfter 1 ∧
    (run1 (exec .printInt { demo [-256] with params := { testParams with wordBits := 9 } })).map State.output =
      some ([] ++ [0x2D, 0x32, 0x35, 0x36]) := by
  unfold State.roomAfter; decide

theorem witness_MiscellaneousOpcodes :
    (demo []).debugLevel.toNat = 0 ∧ 1 ≤ ({ demo [] with debugLevel := 1 } : State).debugLevel.toNat := by decide

theorem witness_LoaderSplitsAtLineFeeds :
    (∀ l ∈ [[(0x31 : Byte)], []], lineFeed ∉ l) ∧ lineFeed ∉ [(0x32 : Byte)] ∧ [(0x32 : Byte)] ≠ [] := by decide

/-- A cell with a byte and a padded one. -/
theorem witness_LoadedGridHoldsTheText :
    (textLines [0x31, 0x32, 0x0A, 0x33])[1]? = some [0x33] ∧ 0 < (loadText [0x31, 0x32, 0x0A, 0x33]).gw ∧
    1 < (loadText [0x31, 0x32, 0x0A, 0x33]).gw := by decide

/-- The last code of each enumeration. -/
theorem witness_SnapshotShowsTheState :
    ((demo []).raised .noMove).runState = .faulted ∧ ((demo []).raised .noMove).faultCode = .noMove ∧
    ({ demo [] with dir := .nw } : State).dir = .nw ∧ (demoAt [] .set ⟨0, 0⟩ []).cmode = .set := by decide

end Sys2Proof.Tests
end

section
/-! PROOF. The words of a machine (00_scope.md R12): `wrap` is the balanced remainder modulo `2^n`, whose halves meet `MIN` and `MAX`.
Arithmetic proofs cite `isWordOf_wrap` and need not open `wrap`. -/

namespace Sys2Proof.Machine

/-- Width 0 is excluded: `MIN` and `MAX` would be -1 and 0 there, two words for the one residue modulo 1. -/
theorem inRange_iff_half_modulus {n : Nat} (hn : 0 < n) (w : Int) :
    InRange n w ↔ -(((2 ^ n : Nat) : Int) / 2) ≤ w ∧ w < (((2 ^ n : Nat) : Int) + 1) / 2 := by
  have hdouble : (2 : Int) ^ n = 2 ^ (n - 1) * 2 := (pow_sub_one_mul hn.ne' 2).symm
  unfold InRange minWord maxWord
  push_cast
  omega

theorem isWordOf_iff_eq_wrap {n : Nat} (hn : 0 < n) (z w : Int) : IsWordOf n z w ↔ w = wrap n z := by
  have hpos : 0 < 2 ^ n := Nat.two_pow_pos n
  have hmod : ((2 ^ n : Nat) : Int) = 2 ^ n := Nat.cast_pow 2 n
  calc IsWordOf n z w
      ↔ (-(((2 ^ n : Nat) : Int) / 2) ≤ w ∧ w < (((2 ^ n : Nat) : Int) + 1) / 2) ∧ ((2 ^ n : Nat) : Int) ∣ w - z := by
        rw [IsWordOf, inRange_iff_half_modulus hn, hmod]
    _ ↔ wrap n z = w := by rw [wrap, Int.bmod_eq_iff hpos, and_assoc]
    _ ↔ w = wrap n z := eq_comm

theorem isWordOf_wrap {n : Nat} (hn : 0 < n) (z : Int) : IsWordOf n z (wrap n z) :=
  (isWordOf_iff_eq_wrap hn z _).mpr rfl

/-- Settles O26: the bounds and the divisibility of `IsWordOf` are those that characterise the balanced remainder. -/
theorem wrapIsTheCongruentWord : Obligations.WrapIsTheCongruentWord :=
  fun _ z w hn => isWordOf_iff_eq_wrap hn z w

end Sys2Proof.Machine
end

section
/-! PROOF. The frame of one execution (10_state.md R33, R45, R49, R52): the control part of the state, and which instruction writes which
flag of it. -/

namespace Sys2Proof.Machine

/-! ## Properties that the icosahedron's operations keep -/

/-- Kept by the operations that the icosahedron's instructions are sequences of (41_ico_engine.md R184, R189). -/
structure KeptByIco (P : State → Prop) : Prop where
  rotate_yields : ∀ r u, P u → (rotate r u).Yields P
  bridge_yields : ∀ u, P u → (bridge u).Yields P
  randNext : ∀ u, P u → P u.randNext
  setIcoPos : ∀ c u, u.InBounds c → P u → P (u.setIcoPos c)

theorem KeptByIco.rotateTimes_yields {P : State → Prop} (hP : KeptByIco P) (r : Rotation) (k : Nat) {s : State} (hs : P s) :
    (rotateTimes r k s).Yields P := by
  induction k generalizing s with
  | zero => exact Flow.yields_cont.2 hs
  | succ k ih => exact (hP.rotate_yields r s hs).bind fun _ hu => ih hu

/-- R320. -/
theorem KeptByIco.rot_yields {P : State → Prop} (hP : KeptByIco P) (r : Rotation) {s : State} (hs : P s) : (rot r s).Yields P :=
  (hP.rotate_yields r s hs).bind hP.bridge_yields

theorem KeptByIco.rollPart_yields {P : State → Prop} (hP : KeptByIco P) (n : Nat) (r : Rotation) {s : State} (hs : P s) :
    (rollPart n r s).Yields P :=
  hP.rotateTimes_yields r _ (hP.randNext s hs)

/-- R332. -/
theorem KeptByIco.execRoll_keeps {P : State → Prop} (hP : KeptByIco P) {s t : State} (hs : P s) (h : execRoll s = .next t) : P t :=
  (((((hP.rollPart_yields 5 .cornerN hs).bind fun _ => hP.rollPart_yields 3 .face).bind fun _ => hP.rollPart_yields 2 .edgeNwN).bind
    fun _ => hP.rollPart_yields 2 .edgeNeSe).bind hP.bridge_yields) t h

/-- R342. -/
theorem KeptByIco.icoMove_yields {P : State → Prop} (hP : KeptByIco P) (d : Dir) {s : State} (hs : P s) : (icoMove d s).Yields P := by
  unfold icoMove
  split_ifs with hnone hin
  · exact Flow.yields_cont.2 hs
  · have hrot := hP.rotate_yields (icoMoveRotation s.params.icoMove d s.icoPos) s hs
    rcases rotate_cases (icoMoveRotation s.params.icoMove d s.icoPos) s with ⟨-, e⟩ | ⟨-, e⟩ <;> rw [e] at hrot ⊢
    · exact hP.bridge_yields _ (hP.setIcoPos _ _ hin (Flow.yields_cont.1 hrot))
    · exact hrot
  · exact Flow.yields_cont.2 hs

/-! ## The control part -/

/-- The part of the state that steers the run and the configuration: what the data operations never write. -/
structure Control where
  ip : Coord
  tick : Nat
  params : Params
  gw : Nat
  gh : Nat
  maxTicks : BitVec 64
  debugLevel : BitVec 8
  jumpValid : Bool
  strafePending : Bool
  stringMode : Bool
  iter : Nat

def State.control (s : State) : Control :=
  { ip := s.ip, tick := s.tick, params := s.params, gw := s.gw, gh := s.gh, maxTicks := s.maxTicks, debugLevel := s.debugLevel,
    jumpValid := s.jumpValid, strafePending := s.strafePending, stringMode := s.stringMode, iter := s.iter }

/-- The control part is `k`: a property to carry through a sequence. -/
abbrev HasControl (k : Control) (s : State) : Prop := s.control = k

@[simp] theorem inRead_control (s : State) : s.inRead.control = s.control := by simp [State.control]
@[simp] theorem randNext_control (s : State) : s.randNext.control = s.control := by simp [State.control]
@[simp] theorem pushBack_control (t : InItem) (s : State) : (s.pushBack t).control = s.control := by simp [State.control]

theorem outAll_control (l : List Byte) (s : State) : (State.outAll l s).control = s.control := by
  induction l generalizing s with
  | nil => rfl
  | cons b l ih => exact ih (s.outWrite b)

theorem readSign_control (s : State) : (readSign s).2.control = s.control := by
  unfold readSign
  split_ifs <;> simp

theorem readDigits_control (k : Nat) (val : Int) (s : State) : (readDigits k val s).2.control = s.control := by
  obtain ⟨_, _, e⟩ := readDigits_frame k val s
  rw [e]; rfl

theorem push_yields_control {k : Control} (v : Int) {s : State} (hs : s.control = k) : (push v s).Yields (HasControl k) := by
  rcases push_cases v s with ⟨-, e⟩ | ⟨-, e⟩ <;> rw [e]
  · exact Flow.yields_cont.2 hs
  · exact Flow.yields_stop.2 hs

theorem dividing_yields_control (f : Int → Int → Int) (s : State) : (dividing f s).Yields (HasControl s.control) := by
  unfold dividing
  split_ifs
  · exact Flow.yields_stop.2 rfl
  · exact push_yields_control (s := s.popped.popped) _ rfl

theorem gridWrite_yields_control {k : Control} (c : Coord) (v : Int) {s : State} (hs : s.control = k) :
    (gridWrite c v s).Yields (HasControl k) := by
  rcases gridWrite_cases c v s with ⟨-, e⟩ | ⟨-, e⟩ <;> rw [e]
  · exact Flow.yields_cont.2 hs
  · exact Flow.yields_fail

theorem writeCells_yields_control {k : Control} (l : List (Coord × Int)) {s : State} (hs : s.control = k) :
    (writeCells l s).Yields (HasControl k) := by
  induction l generalizing s with
  | nil => exact Flow.yields_cont.2 hs
  | cons e l ih => exact (gridWrite_yields_control e.1 e.2 hs).bind fun _ hu => ih hu

theorem hasControl_keptByIco (k : Control) : KeptByIco (HasControl k) where
  rotate_yields r u hu := by
    rcases rotate_cases r u with ⟨-, e⟩ | ⟨-, e⟩ <;> rw [e]
    · exact Flow.yields_cont.2 hu
    · exact Flow.yields_stop.2 hu
  bridge_yields u hu := by
    rcases bridge_cases u with ⟨-, e⟩ | ⟨-, e⟩ | ⟨-, -, e⟩ | ⟨-, -, e⟩ <;> rw [e]
    · exact Flow.yields_cont.2 hu
    · exact Flow.yields_cont.2 hu
    · exact Flow.yields_cont.2 hu
    · exact Flow.yields_fail
  randNext u hu := (randNext_control u).trans hu
  setIcoPos _ _ _ hu := hu

theorem rotateBlock_yields_control {k : Control} (y xh m : Int) {s : State} (hs : s.control = k) :
    (rotateBlock y xh m s).Yields (HasControl k) := by
  unfold rotateBlock
  split_ifs
  · exact (writeCells_yields_control _ hs).bind (hasControl_keptByIco k).bridge_yields
  · exact Flow.yields_cont.2 hs

/-- Popping a coordinate keeps what the popped state and the write at the popped coordinate keep. -/
theorem withCoord_yields {P : State → Prop} {f : Coord → State → State} {s : State}
    (hf : 0 < s.gw → 0 < s.gh → P (f s.popCoord s.popped.popped)) : (withCoord f s).Yields P := by
  unfold withCoord
  split_ifs with h
  · exact Flow.yields_fail
  · exact Flow.yields_cont.2 (hf (by omega) (by omega))

/-! ## One execution -/

/-- An outcome that is a next state is that state. -/
theorem next_keeps {P : State → Prop} {u t : State} (h : (Host.Outcome.next u : Host.Outcome State Fault Refusal) = .next t)
    (hu : P u) : P t :=
  Flow.yields_cont.2 hu t h

/-- The instructions that write a flag or the count of the control part. -/
def writesControl : Instr → Bool
  | .strafe | .skip | .skipZ | .iterate | .jump | .stringToggle => true
  | _ => false

/-- Every other instruction leaves the whole control part alone. -/
theorem exec_control {i : Instr} {s t : State} (hi : writesControl i = false) (h : exec i s = .next t) :
    t.control = s.control := by
  have ico := hasControl_keptByIco s.control
  cases i with
  | strafe | skip | skipZ | iterate | jump | stringToggle => cases hi
  | mirrorSwNe | mirrorNwSe | mirrorWE | mirrorNS | turnL | turnR | turnC | discard | reverse | rotl | rotr | cursorEnd
  | writeByte | writeNl | terminate | nop => exact next_keeps (P := HasControl s.control) h rfl
  | printInt => exact next_keeps (P := HasControl s.control) h (outAll_control _ s.popped)
  | debug =>
    refine next_keeps (P := HasControl s.control) h ?_
    split_ifs <;> rfl
  | push0 | depth | pushFace | load => exact push_yields_control (s := s) _ rfl t h
  | digit | inc | dec | not | neg | bnot => exact push_yields_control (s := s.popped) _ rfl t h
  | add | sub | mul | and | or | xor => exact push_yields_control (s := s.popped.popped) _ rfl t h
  | div | mod => exact dividing_yields_control _ s t h
  | dup =>
    simp only [exec, execDup] at h
    split_ifs at h <;> exact push_yields_control (s := s) _ rfl t h
  | swap => exact (push_yields_control (s := s.popped.popped) _ rfl).bind (fun _ hu => push_yields_control _ hu) t h
  | readByte => exact push_yields_control _ (inRead_control s) t h
  | readInt => exact push_yields_control _ ((readDigits_control _ _ _).trans (readSign_control s)) t h
  | rotEdgeNw | rotEdgeNe | rotEdgeS | rotEdgeNwN | rotEdgeNeSe | rotEdgeSSw | rotCornerN | rotCornerSe | rotCornerSw
  | rotFace | rotFlip => exact ico.rot_yields _ rfl t h
  | roll => exact ico.execRoll_keeps rfl h
  | rotCond => exact ico.rot_yields (s := s.popped) _ rfl t h
  | rotRand => exact ico.rot_yields _ (randNext_control s) t h
  | store => exact ico.bridge_yields (s.popped.icoStore s.top) rfl t h
  | icoMoveW | icoMoveE | icoMoveNw | icoMoveNe | icoMoveSw | icoMoveSe => exact ico.icoMove_yields _ rfl t h
  | cursorGet | cursorSet => exact withCoord_yields (P := HasControl s.control) (fun _ _ => rfl) t h
  | rotateCells => exact rotateBlock_yields_control (s := s.popped.popped.popped) _ _ _ rfl t h

/-- What an execution of `i` leaves of the control part: all but the flag or the count that `i` itself writes. -/
structure ControlFrame (i : Instr) (s t : State) : Prop where
  ip : t.ip = s.ip
  tick : t.tick = s.tick
  params : t.params = s.params
  gw : t.gw = s.gw
  gh : t.gh = s.gh
  maxTicks : t.maxTicks = s.maxTicks
  debugLevel : t.debugLevel = s.debugLevel
  jumpValid : i ≠ .jump → t.jumpValid = s.jumpValid
  strafePending : i ≠ .strafe → t.strafePending = s.strafePending
  stringMode : i ≠ .stringToggle → t.stringMode = s.stringMode
  iter : i ≠ .skip → i ≠ .skipZ → i ≠ .iterate → t.iter = s.iter

theorem ControlFrame.of_control {i : Instr} {s t : State} (h : t.control = s.control) : ControlFrame i s t := by
  simp only [State.control, Control.mk.injEq] at h
  obtain ⟨hip, htick, hparams, hgw, hgh, hmax, hdebug, hjump, hstrafe, hstring, hiter⟩ := h
  exact ⟨hip, htick, hparams, hgw, hgh, hmax, hdebug, fun _ => hjump, fun _ => hstrafe, fun _ => hstring, fun _ _ _ => hiter⟩

theorem exec_controlFrame {i : Instr} {s t : State} (h : exec i s = .next t) : ControlFrame i s t := by
  by_cases hi : writesControl i = false
  · exact .of_control (exec_control hi h)
  · cases i with
    | strafe | skip | stringToggle | iterate => exact next_keeps h (by constructor <;> simp)
    | skipZ =>
      refine next_keeps h ?_
      split_ifs <;> constructor <;> simp
    | jump => exact withCoord_yields (P := ControlFrame .jump s) (fun _ _ => by constructor <;> simp) t h
    | _ => exact absurd rfl hi

/-- Settles O16: the frame of an execution, without its clauses on the flags. -/
theorem noExecutionMovesOrCounts : Obligations.NoExecutionMovesOrCounts := by
  intro i s t h
  obtain ⟨hip, htick, hparams, hgw, hgh, hmax, hdebug, -⟩ := exec_controlFrame h
  exact ⟨hip, htick, hparams, hgw, hgh, hmax, hdebug⟩

end Sys2Proof.Machine
end

section
/-! PROOF. Reset (70_reset_and_hazards.md R472): the parameters it launches with are allowed, whatever the open tables are. -/

namespace Sys2Proof.Machine

theorem launchOpcodeMap_ok : launchOpcodeMap.ok = true := by
  unfold launchOpcodeMap
  split_ifs with h
  · exact h
  · rfl

theorem launchRotTable_ok : launchRotTable.ok = true := by
  unfold launchRotTable
  split_ifs with h
  · exact h
  · decide

theorem launchStrafe_ok : launchStrafe.ok = true := by
  unfold launchStrafe
  split_ifs with h
  · exact h
  · decide

theorem initFaces_defaultParams_words : ∀ v ∈ defaultParams.initFaces.toList, InRange 64 v :=
  show ∀ v ∈ (#v[0, 0, 0, 0, 0, 0, 0, 0, 0, 0, 0, 0, 0, 0, 0, 0, 0, 0, 0, 0] : Vector Int 20).toList, InRange 64 v by decide

theorem defaultParams_ok : defaultParams.ok = true := by
  simp only [Params.ok, Bool.and_eq_true, decide_eq_true_eq, List.all_eq_true]
  exact ⟨⟨⟨⟨show 9 ≤ 64 by decide, launchOpcodeMap_ok⟩, launchRotTable_ok⟩, launchStrafe_ok⟩, initFaces_defaultParams_words⟩

/-- Settles O1: the core is IDLE with nothing loaded, so every clause on a cell, on the stack or on the cursor is empty. -/
theorem resetMeetsInvariant : Obligations.ResetMeetsInvariant where
  params := defaultParams_ok
  fits := rfl
  gridForm := reset_grid_wf
  gridWords := by simp [State.reset, State.resetWith, defaultLaunch, loadText, textLines, gridCells]
  stackWords := by simp [State.reset, State.resetWith]
  faceWords := initFaces_defaultParams_words
  stackBound := by simp [State.reset, State.resetWith]
  idxBijection := show identityPerm.toList.Nodup by decide
  iterWord := show (1 : Int) ≤ maxWord 64 by decide
  cursor h := absurd rfl h
  stringIter _ := rfl
  settled _ := ⟨rfl, rfl, fun hw _ => absurd hw (show ¬ 0 < 0 by decide)⟩
  nonempty h := by simp [State.reset, State.resetWith] at h
  faultCode := by simp [State.reset, State.resetWith]
  notReserved := by simp [State.reset, State.resetWith]
  notInvariant := by simp [State.reset, State.resetWith]

end Sys2Proof.Machine
end

section
/-! PROOF. Every step keeps the invariant (10_state.md R54). Inside a tick a jump, a strafe and a count may be pending, so the executions
keep `MidTick`, which drops the clauses of `Inv` on them; the move phase settles what is pending. -/

namespace Sys2Proof.Machine

/-! ## Words -/

theorem two_pow_eight_le {n : Nat} (hn : 9 ≤ n) : (256 : Int) ≤ 2 ^ (n - 1) :=
  calc (256 : Int) = 2 ^ 8 := by norm_num
    _ ≤ 2 ^ (n - 1) := pow_le_pow_right₀ (by norm_num) (by omega)

/-- A byte value, and the code -1 of the end of the stream, are words. -/
theorem inRange_small {n : Nat} (hn : 9 ≤ n) {v : Int} (hlo : -1 ≤ v) (hhi : v ≤ 255) : InRange n v := by
  have := two_pow_eight_le hn
  unfold InRange minWord maxWord
  omega

theorem inRange_toInt {n : Nat} (x : BitVec n) : InRange n x.toInt :=
  ⟨x.le_toInt, Int.le_sub_one_of_lt x.toInt_lt⟩

/-- R281: the remainder lies between 0 and the divisor, so it needs no reduction. -/
theorem inRange_fmod {n : Nat} (hn : 9 ≤ n) (b : Int) {a : Int} (ha : InRange n a) (hne : a ≠ 0) : InRange n (fmod b a) := by
  have := two_pow_eight_le hn
  unfold InRange minWord maxWord at *
  unfold fmod
  rcases lt_or_gt_of_ne hne with hneg | hpos
  · have hflip : Int.fmod b a = -Int.fmod (-b) (-a) := by rw [Int.neg_fmod_neg, neg_neg]
    have hnonneg := Int.fmod_nonneg_of_pos (-b) (b := -a) (by omega)
    have hlt := Int.fmod_lt_of_pos (-b) (b := -a) (by omega)
    omega
  · have hnonneg := Int.fmod_nonneg_of_pos b hpos
    have hlt := Int.fmod_lt_of_pos b hpos
    omega

theorem Params.wordBits_of_ok {p : Params} (h : p.ok = true) : 9 ≤ p.wordBits := by
  simp only [Params.ok, Bool.and_eq_true, decide_eq_true_eq] at h
  obtain ⟨⟨⟨⟨hbits, -⟩, -⟩, -⟩, -⟩ := h
  exact hbits

theorem Params.rotTable_of_ok {p : Params} (h : p.ok = true) : p.rotTable.ok = true := by
  simp only [Params.ok, Bool.and_eq_true] at h
  obtain ⟨⟨⟨-, hrot⟩, -⟩, -⟩ := h
  exact hrot

/-- A read of the store finds a listed word or the padding. -/
theorem memRead_mem_or_unlisted (c : Coord) (m : Memory) : (c, memRead c m) ∈ m ∨ memRead c m = unlistedCell := by
  induction m with
  | nil => exact .inr rfl
  | cons e m ih =>
    rw [memRead]
    split_ifs with hc
    · subst hc; exact .inl (by simp)
    · exact ih.imp_left (List.mem_cons_of_mem _)

/-! ## The invariant inside a tick -/

/-- What holds of the state inside a tick, before the move phase. -/
structure MidTick (s : State) : Prop where
  params : s.params.ok = true
  fits : s.params.gridFits s.gw s.gh = true
  gridForm : Memory.wf s.gw s.gh s.grid = true
  gridWords : ∀ e ∈ s.grid, InRange s.params.wordBits e.2
  stackWords : ∀ v ∈ s.stack, InRange s.params.wordBits v
  faceWords : ∀ v ∈ s.faces.toList, InRange s.params.wordBits v
  stackBound : ∀ k, s.params.stackMax = some k → s.stack.length ≤ k
  idxBijection : s.idx.toList.Nodup
  iterWord : (s.iter : Int) ≤ maxWord s.params.wordBits
  cursor : s.cmode ≠ .none → s.InBounds s.icoPos
  faultCode : s.faultCode ≠ .none ↔ s.runState = .faulted
  notReserved : s.faultCode ≠ .programError
  notInvariant : s.faultCode ≠ .invariant
  started : s.runState ≠ .idle
  nonempty : 0 < s.gw ∧ 0 < s.gh
  ipInBounds : s.InBounds s.ip
  jumpInBounds : s.jumpValid = true → s.InBounds s.jumpTarget

theorem Inv.midTick {s : State} (h : Inv s) (hr : s.runState = .running) : MidTick s :=
  have ⟨hw, hh⟩ := h.nonempty hr
  have ⟨hjump, _, hip⟩ := h.settled (.inr hr)
  { h with
    started := by simp [hr]
    nonempty := ⟨hw, hh⟩
    ipInBounds := hip hw hh
    jumpInBounds := fun hj => by simp [hjump] at hj }

/-- Between ticks nothing is pending, and the count of a tick in string mode is 1 (42_tick_and_move.md R214). -/
theorem MidTick.inv {s : State} (h : MidTick s) (hstring : s.stringMode = true → s.iter = 1)
    (hpending : s.runState = .running → s.jumpValid = false ∧ s.strafePending = false) : Inv s :=
  { h with
    stringIter := hstring
    settled := fun hr =>
      have ⟨hjump, hstrafe⟩ := hpending (hr.resolve_left h.started)
      ⟨hjump, hstrafe, fun _ _ => h.ipInBounds⟩
    nonempty := fun _ => h.nonempty }

namespace MidTick

variable {s : State}

theorem wordBits (h : MidTick s) : 9 ≤ s.params.wordBits := Params.wordBits_of_ok h.params

/-! ### What a sound state holds is a word -/

theorem wrapW_inRange (h : MidTick s) (v : Int) : InRange s.params.wordBits (s.wrapW v) :=
  (isWordOf_wrap (by have := h.wordBits; omega) v).1

theorem zero_inRange (h : MidTick s) : InRange s.params.wordBits 0 := inRange_small h.wordBits (by omega) (by omega)

theorem top_inRange (h : MidTick s) : InRange s.params.wordBits s.top := by
  rcases hs : s.stack with _ | ⟨v, l⟩
  · simpa [State.top, hs] using h.zero_inRange
  · simpa [State.top, hs] using h.stackWords v (by simp [hs])

theorem gridRead_inRange (h : MidTick s) (c : Coord) : InRange s.params.wordBits (s.gridRead c) := by
  unfold State.gridRead
  split_ifs
  · rcases memRead_mem_or_unlisted c s.grid with hm | hu
    · exact h.gridWords _ hm
    · rw [hu]; exact h.zero_inRange
  · exact h.zero_inRange

theorem icoLoad_inRange (h : MidTick s) : InRange s.params.wordBits s.icoLoad :=
  h.faceWords _ (by simp [State.icoLoad, State.faceRead])

/-! ### The updates of the state -/

/-- A stack whose entries were on the stack, no more of them than before. -/
theorem withStack (h : MidTick s) {l : List Int} (hmem : ∀ v ∈ l, v ∈ s.stack) (hlen : l.length ≤ s.stack.length) :
    MidTick { s with stack := l } :=
  { h with
    stackWords := fun v hv => h.stackWords v (hmem v hv)
    stackBound := fun k hk => hlen.trans (h.stackBound k hk) }

theorem permStack (h : MidTick s) {l : List Int} (hl : l.Perm s.stack) : MidTick { s with stack := l } :=
  h.withStack (fun _ => hl.mem_iff.1) hl.length_eq.le

theorem popped (h : MidTick s) : MidTick s.popped :=
  h.withStack (fun _ => List.mem_of_mem_tail) (by simp)

theorem pushed (h : MidTick s) {v : Int} (hroom : ¬ s.Full) (hv : InRange s.params.wordBits v) : MidTick (s.pushed v) :=
  { h with
    stackWords := List.forall_mem_cons.2 ⟨hv, h.stackWords⟩
    stackBound := fun k hk => by
      have hle := h.stackBound k hk
      have hne : s.stack.length ≠ k := fun e => hroom (hk.trans (congrArg some e.symm))
      rw [State.pushed_stack, List.length_cons]
      omega }

/-- The codes a sound core raises (60_exceptions.md R432). -/
theorem raised (h : MidTick s) {code : FaultCode} (hcode : code = .divByZero ∨ code = .stackOverflow ∨ code = .noMove) :
    MidTick (s.raised code) :=
  { h with
    faultCode := by rcases hcode with rfl | rfl | rfl <;> simp
    notReserved := by rcases hcode with rfl | rfl | rfl <;> simp
    notInvariant := by rcases hcode with rfl | rfl | rfl <;> simp
    started := by simp }

theorem halted (h : MidTick s) (hr : s.runState = .running) : MidTick { s with runState := .haltNormal } :=
  { h with
    faultCode := by simpa [hr] using h.faultCode
    started := by simp }

theorem withCell (h : MidTick s) {c : Coord} {v : Int} (hc : s.InBounds c) (hv : InRange s.params.wordBits v) :
    MidTick (s.withCell c v) :=
  { h with
    gridForm := memWrite_wf h.gridForm hc
    gridWords := fun e he => by
      rcases mem_memWrite he with ⟨rfl, -⟩ | hold
      · exact hv
      · exact h.gridWords e hold }

theorem faceWrite (h : MidTick s) (i : Fin 20) {v : Int} (hv : InRange s.params.wordBits v) : MidTick (s.faceWrite i v) :=
  { h with
    faceWords := fun w hw => by
      rw [State.faceWrite_faces, Vector.toList_set] at hw
      rcases List.mem_or_eq_of_mem_set hw with hold | rfl
      · exact h.faceWords w hold
      · exact hv }

theorem setIter (h : MidTick s) {k : Nat} (hk : (k : Int) ≤ maxWord s.params.wordBits) : MidTick (s.setIter k) :=
  { h with iterWord := hk }

theorem setJump (h : MidTick s) {c : Coord} (hc : s.InBounds c) : MidTick (s.setJump c) :=
  { h with jumpInBounds := fun _ => hc }

theorem setCursor (h : MidTick s) (m : CursorMode) {c : Coord} (hc : s.InBounds c) : MidTick (s.setCursor m c) :=
  { h with cursor := fun _ => hc }

theorem cursorEnded (h : MidTick s) : MidTick { s with cmode := .none } :=
  { h with cursor := fun hne => absurd rfl hne }

theorem setIcoPos (h : MidTick s) {c : Coord} (hc : s.InBounds c) : MidTick (s.setIcoPos c) :=
  { h with cursor := fun _ => hc }

theorem setDir (h : MidTick s) (d : Dir) : MidTick (s.setDir d) := { h with }

theorem outWrite (h : MidTick s) (b : Byte) : MidTick (s.outWrite b) := { h with }

theorem outAll (h : MidTick s) (l : List Byte) : MidTick (State.outAll l s) := by
  induction l generalizing s with
  | nil => exact h
  | cons b l ih => exact ih (h.outWrite b)

theorem strobe (h : MidTick s) (r : StrobeReason) : MidTick (s.strobe r) := { h with }

theorem withPorts (h : MidTick s) (l : List Byte) (p : Pushback) : MidTick { s with input := l, pushback := p } := { h with }

theorem inRead (h : MidTick s) : MidTick s.inRead := by
  unfold State.inRead
  split
  · exact h.withPorts s.input.tail s.pushback
  · exact h.withPorts s.input .empty

theorem pushBack (h : MidTick s) (t : InItem) : MidTick (s.pushBack t) := by
  cases t with
  | byte b => exact h.withPorts s.input (.byte b)
  | eos => exact h.withPorts s.input .eos

theorem readSign_snd (h : MidTick s) : MidTick (readSign s).2 := by
  unfold readSign
  split_ifs
  · exact h.inRead
  · exact h.inRead
  · exact h.inRead.pushBack _

theorem readDigits_snd (h : MidTick s) (k : Nat) (val : Int) : MidTick (readDigits k val s).2 := by
  obtain ⟨l, p, e⟩ := readDigits_frame k val s
  exact e ▸ h.withPorts l p

theorem randNext (h : MidTick s) : MidTick s.randNext := by
  unfold State.randNext
  split <;> exact { h with }

/-! ### The shared operations -/

theorem push_yields (h : MidTick s) {v : Int} (hv : InRange s.params.wordBits v) : (push v s).Yields MidTick := by
  rcases push_cases v s with ⟨hroom, e⟩ | ⟨-, e⟩ <;> rw [e]
  · exact Flow.yields_cont.2 (h.pushed hroom hv)
  · exact Flow.yields_stop.2 (h.raised (.inr (.inl rfl)))

theorem unary_yields (h : MidTick s) {f : Int → Int} (hf : InRange s.params.wordBits (f s.top)) : (unary f s).Yields MidTick :=
  h.popped.push_yields hf

theorem binary_yields (h : MidTick s) {f : Int → Int → Int} (hf : InRange s.params.wordBits (f s.popped.top s.top)) :
    (binary f s).Yields MidTick :=
  h.popped.popped.push_yields hf

theorem dividing_yields (h : MidTick s) {f : Int → Int → Int}
    (hf : s.top ≠ 0 → InRange s.params.wordBits (f s.popped.top s.top)) : (dividing f s).Yields MidTick := by
  unfold dividing
  split_ifs with hz
  · exact Flow.yields_stop.2 (h.popped.popped.raised (.inl rfl))
  · exact h.binary_yields (hf hz)

theorem rotate_yields (h : MidTick s) (r : Rotation) : (rotate r s).Yields MidTick := by
  have hp := Params.rotTable_of_ok h.params
  rw [rotate_ok r hp h.idxBijection]
  exact Flow.yields_cont.2 { h with idxBijection := permute_nodup (RotTable.ok_nodup hp _) h.idxBijection }

theorem bridge_yields (h : MidTick s) : (bridge s).Yields MidTick := by
  rcases bridge_cases s with ⟨-, e⟩ | ⟨-, e⟩ | ⟨-, hin, e⟩ | ⟨-, -, e⟩ <;> rw [e]
  · exact Flow.yields_cont.2 h
  · exact Flow.yields_cont.2 (h.faceWrite _ (h.gridRead_inRange _))
  · exact Flow.yields_cont.2 (h.withCell hin h.icoLoad_inRange)
  · exact Flow.yields_fail

theorem keptByIco : KeptByIco MidTick where
  rotate_yields r _ h := h.rotate_yields r
  bridge_yields _ h := h.bridge_yields
  randNext _ h := h.randNext
  setIcoPos _ _ hc h := h.setIcoPos hc

theorem writeCells_yields (h : MidTick s) {l : List (Coord × Int)} (hl : ∀ e ∈ l, InRange s.params.wordBits e.2) :
    (writeCells l s).Yields MidTick := by
  induction l generalizing s with
  | nil => exact Flow.yields_cont.2 h
  | cons e l ih =>
    obtain ⟨hv, hrest⟩ := List.forall_mem_cons.1 hl
    rw [writeCells]
    rcases gridWrite_cases e.1 e.2 s with ⟨hin, he⟩ | ⟨-, he⟩ <;> rw [he]
    · exact ih (h.withCell hin hv) hrest
    · exact Flow.yields_fail

theorem rotateBlock_yields (h : MidTick s) (y xh m : Int) : (rotateBlock y xh m s).Yields MidTick := by
  unfold rotateBlock
  split_ifs
  · refine (h.writeCells_yields fun e he => ?_).bind fun _ => MidTick.bridge_yields
    obtain ⟨i, -, rfl⟩ := List.mem_map.1 he
    exact h.gridRead_inRange _
  · exact Flow.yields_cont.2 h

end MidTick

/-! ## One execution -/

/-- R305. -/
theorem rotateLeft_perm (l : List Int) : (rotateLeft l).Perm l := by
  rcases l.eq_nil_or_concat with rfl | ⟨l, v, rfl⟩
  · exact .nil
  · simpa [rotateLeft] using (List.perm_append_singleton v l).symm

/-- R306. -/
theorem rotateRight_perm (l : List Int) : (rotateRight l).Perm l := by
  cases l with
  | nil => exact .nil
  | cons v l => exact List.perm_append_singleton v l

/-- R247: the count is the popped word, clamped at 0. -/
theorem MidTick.iterate_setIter {s : State} (h : MidTick s) :
    MidTick (s.popped.setIter (if s.top < 0 then 0 else s.top.toNat)) := by
  refine h.popped.setIter ?_
  have hzero := h.zero_inRange.2
  have htop := h.top_inRange.2
  rw [State.popped_params]
  split_ifs <;> omega

/-- R272: either sign of the accumulator is reduced to a word. -/
theorem MidTick.digit_yields {s : State} (h : MidTick s) (d : Nat) :
    (unary (fun acc => if acc < 0 then s.wrapW (acc * 10 - d) else s.wrapW (acc * 10 + d)) s).Yields MidTick := by
  refine h.unary_yields ?_
  split_ifs <;> exact h.wrapW_inRange _

/-- R275. -/
theorem MidTick.not_yields {s : State} (h : MidTick s) : (unary (fun v : Int => if v = 0 then 1 else 0) s).Yields MidTick := by
  refine h.unary_yields ?_
  split_ifs <;> exact inRange_small h.wordBits (by omega) (by omega)

/-- R302: the second push follows only a first one that had room. -/
theorem MidTick.swap_yields {s : State} (h : MidTick s) :
    ((push s.top s.popped.popped).bind (push s.popped.top)).Yields MidTick := by
  rcases push_cases s.top s.popped.popped with ⟨hroom, e⟩ | ⟨-, e⟩ <;> rw [e]
  · exact (h.popped.popped.pushed hroom h.top_inRange).push_yields h.popped.top_inRange
  · exact Flow.yields_stop.2 (h.popped.popped.raised (.inr (.inl rfl)))

/-- R384: the number read is reduced to a word of the same machine. -/
theorem MidTick.readInt {s t : State} (h : MidTick s) (e : execReadInt s = .next t) : MidTick t := by
  have hparams : ∀ k val, (readDigits k val (readSign s).2).2.params = s.params := fun k val =>
    congrArg Control.params ((readDigits_control k val _).trans (readSign_control s))
  refine (h.readSign_snd.readDigits_snd _ _).push_yields ?_ t e
  rw [hparams]
  exact h.wrapW_inRange _

theorem exec_midTick {i : Instr} {s t : State} (h : MidTick s) (hr : s.runState = .running) (e : exec i s = .next t) :
    MidTick t := by
  have ico := MidTick.keptByIco
  have ⟨hw, hh⟩ := h.nonempty
  have hgrid := popCoord_inBounds s hw hh
  cases i with
  | mirrorSwNe | mirrorNwSe | mirrorWE | mirrorNS | turnL | turnR => exact next_keeps e (h.setDir _)
  | turnC => exact next_keeps e (h.popped.setDir _)
  | strafe | stringToggle => exact next_keeps e { h with }
  | skip => exact next_keeps e (h.setIter h.zero_inRange.2)
  | skipZ =>
    refine next_keeps e ?_
    split_ifs
    · exact h.popped.setIter h.zero_inRange.2
    · exact h.popped
  | iterate => exact next_keeps e h.iterate_setIter
  | jump => exact withCoord_yields (fun _ _ => h.popped.popped.setJump hgrid) t e
  | cursorGet | cursorSet => exact withCoord_yields (fun _ _ => h.popped.popped.setCursor _ hgrid) t e
  | cursorEnd => exact next_keeps e h.cursorEnded
  | push0 => exact h.push_yields h.zero_inRange t e
  | digit d => exact h.digit_yields d t e
  | inc | dec | neg =>
    refine h.unary_yields ?_ t e
    exact h.wrapW_inRange _
  | not => exact h.not_yields t e
  | bnot => exact h.unary_yields (inRange_toInt _) t e
  | add | sub | mul => exact h.binary_yields (h.wrapW_inRange _) t e
  | and | or | xor => exact h.binary_yields (inRange_toInt _) t e
  | div => exact h.dividing_yields (fun _ => h.wrapW_inRange _) t e
  | mod => exact h.dividing_yields (fun hne => inRange_fmod h.wordBits _ h.top_inRange hne) t e
  | discard => exact next_keeps e h.popped
  | dup =>
    simp only [exec, execDup] at e
    split_ifs at e
    · exact h.push_yields h.zero_inRange t e
    · exact h.push_yields h.top_inRange t e
  | swap => exact h.swap_yields t e
  | depth | pushFace => exact h.push_yields (h.wrapW_inRange _) t e
  | reverse => exact next_keeps e (h.permStack s.stack.reverse_perm)
  | rotl => exact next_keeps e (h.permStack (rotateLeft_perm _))
  | rotr => exact next_keeps e (h.permStack (rotateRight_perm _))
  | rotEdgeNw | rotEdgeNe | rotEdgeS | rotEdgeNwN | rotEdgeNeSe | rotEdgeSSw | rotCornerN | rotCornerSe | rotCornerSw
  | rotFace | rotFlip => exact ico.rot_yields _ h t e
  | roll => exact ico.execRoll_keeps h e
  | rotCond => exact ico.rot_yields _ h.popped t e
  | rotRand => exact ico.rot_yields _ h.randNext t e
  | store => exact (h.popped.faceWrite _ h.top_inRange).bridge_yields t e
  | load => exact h.push_yields h.icoLoad_inRange t e
  | icoMoveW | icoMoveE | icoMoveNw | icoMoveNe | icoMoveSw | icoMoveSe => exact ico.icoMove_yields _ h t e
  | rotateCells => exact h.popped.popped.popped.rotateBlock_yields _ _ _ t e
  | readByte => exact h.inRead.push_yields (v := s.wrapW (itemCode s.inItem)) (by simpa using h.wrapW_inRange _) t e
  | readInt => exact h.readInt e
  | writeByte => exact next_keeps e (h.popped.outWrite _)
  | printInt => exact next_keeps e (h.popped.outAll _)
  | writeNl => exact next_keeps e (h.outWrite _)
  | terminate => exact next_keeps e (h.halted hr)
  | nop => exact next_keeps e h
  | debug =>
    refine next_keeps e ?_
    split_ifs
    · exact h.strobe _
    · exact h

/-- While a tick executes `i`, nothing is pending and no count is left but what `i` itself writes. -/
structure Latched (i : Instr) (s : State) : Prop where
  jump : s.jumpValid = true → i = .jump
  strafe : s.strafePending = true → i = .strafe
  string : s.stringMode = true → i = .stringToggle
  count : s.iter ≠ 1 → i = .skip ∨ i = .skipZ ∨ i = .iterate

theorem exec_latched {i : Instr} {s t : State} (h : Latched i s) (e : exec i s = .next t) : Latched i t := by
  have frame := exec_controlFrame e
  constructor
  · exact fun hj => by_contra fun hi => hi (h.jump (frame.jumpValid hi ▸ hj))
  · exact fun hs => by_contra fun hi => hi (h.strafe (frame.strafePending hi ▸ hs))
  · exact fun hs => by_contra fun hi => hi (h.string (frame.stringMode hi ▸ hs))
  · intro hc
    by_contra hi
    simp only [not_or] at hi
    obtain ⟨hskip, hskipZ, hiterate⟩ := hi
    simpa [hskip, hskipZ, hiterate] using h.count (frame.iter hskip hskipZ hiterate ▸ hc)

/-! ## The end of a tick -/

/-- What the execution part of a tick hands to the move phase: a jump and a strafe are never both pending, and string mode has count 1. -/
structure ReadyToMove (s : State) : Prop extends MidTick s where
  exclusive : s.jumpValid = true → s.strafePending = false
  stringIter : s.stringMode = true → s.iter = 1

theorem MidTick.readyToMove {i : Instr} {s : State} (h : MidTick s) (hi : Latched i s) : ReadyToMove s :=
  { h with
    exclusive := fun hj => by
      by_contra hs
      have hjump := hi.jump hj
      have hstrafe := hi.strafe (by simpa using hs)
      simp [hjump] at hstrafe
    stringIter := fun hs => by
      by_contra hc
      have hstring := hi.string hs
      have hcount := hi.count hc
      simp [hstring] at hcount }

/-- The move phase settles what is pending, and `ip` stays in the grid (42_tick_and_move.md R218 to R223). -/
theorem ReadyToMove.move {s : State} (h : ReadyToMove s) : (move s).Yields Inv := by
  rcases move_cases s with ⟨hj, e⟩ | ⟨hj, -, hin, e⟩ | ⟨hj, -, e⟩
  · have hmoved : MidTick { s with ip := s.jumpTarget, jumpValid := false } :=
      { h with ipInBounds := h.jumpInBounds hj, jumpInBounds := fun hf => by cases hf }
    rw [e]
    exact Flow.yields_cont.2 (hmoved.inv h.stringIter fun _ => ⟨rfl, h.exclusive hj⟩)
  · have hmoved : MidTick { s with strafePending := false, ip := strafeFrom s.params.strafe s.dir s.ip } :=
      { h with ipInBounds := hin }
    rw [e]
    exact Flow.yields_cont.2 (hmoved.inv h.stringIter fun _ => ⟨hj, rfl⟩)
  · have hcleared : MidTick { s with strafePending := false } := { h.toMidTick with }
    rw [e]
    rcases normalStep_cases { s with strafePending := false } with ⟨d, c, -, hin, e⟩ | ⟨-, e⟩ | ⟨-, e⟩ <;> rw [e]
    · have hmoved : MidTick { s with strafePending := false, dir := d, ip := c } := { h with ipInBounds := hin }
      exact Flow.yields_cont.2 (hmoved.inv h.stringIter fun _ => ⟨hj, rfl⟩)
    · exact Flow.yields_cont.2 (hcleared.inv h.stringIter fun _ => ⟨hj, rfl⟩)
    · exact Flow.yields_stop.2 ((hcleared.raised (.inr (.inr rfl))).inv h.stringIter fun _ => ⟨hj, rfl⟩)

theorem ReadyToMove.moveAndCount {s t : State} (h : ReadyToMove s) (e : moveAndCount s = .next t) : Inv t := by
  have hmove := h.move
  rcases moveAndCount_cases s with ⟨u, hu, e'⟩ | ⟨u, hu, -, e'⟩
  · rw [hu, Flow.yields_cont] at hmove
    exact next_keeps (e'.symm.trans e) { hmove with }
  · rw [hu, Flow.yields_stop] at hmove
    exact next_keeps (e'.symm.trans e) hmove

theorem finishTick_inv {x : Host.Outcome State Fault Refusal} {t : State} (hx : ∀ u, x = .next u → ReadyToMove u)
    (e : finishTick x = .next t) : Inv t := by
  obtain ⟨u, hu, ⟨-, hmove⟩ | ⟨hstopped, rfl⟩⟩ := finishTick_eq_next.1 e
  · exact (hx u hu).moveAndCount hmove
  · exact (hx t hu).toMidTick.inv (hx t hu).stringIter fun hr => absurd hr hstopped

/-! ## One tick -/

theorem Inv.withStrobes {s : State} (h : Inv s) (l : List Strobe) : Inv { s with strobes := l } := { h with }

theorem Inv.readyToMove {s : State} (h : Inv s) (hr : s.runState = .running) : ReadyToMove s :=
  { h.midTick hr with
    exclusive := fun _ =>
      have ⟨_, hstrafe, _⟩ := h.settled (.inr hr)
      hstrafe
    stringIter := h.stringIter }

/-- R214. -/
theorem stringCell_readyToMove {s : State} (h : Inv s) (hr : s.runState = .running) : (stringCell s).Yields ReadyToMove := by
  have hready := h.readyToMove hr
  unfold stringCell
  split_ifs
  · exact Flow.yields_cont.2 { hready with stringIter := fun hf => by cases hf }
  · rcases push_cases s.fetch s with ⟨hroom, e⟩ | ⟨-, e⟩ <;> rw [e]
    · have hpushed := hready.toMidTick.pushed hroom (hready.toMidTick.gridRead_inRange s.ip)
      exact Flow.yields_cont.2 { hpushed with exclusive := hready.exclusive, stringIter := hready.stringIter }
    · have hraised := hready.toMidTick.raised (code := .stackOverflow) (.inr (.inl rfl))
      exact Flow.yields_stop.2 { hraised with exclusive := hready.exclusive, stringIter := hready.stringIter }

/-- R215, R217: the executions keep what a tick of the latched instruction starts with. -/
theorem decodedCell_readyToMove {s t : State} (h : Inv s) (hr : s.runState = .running) (hm : s.stringMode = false)
    (e : decodedCell s = .next t) : ReadyToMove t := by
  obtain ⟨hjump, hstrafe, -⟩ := h.settled (.inr hr)
  have hmid : MidTick { s with iter := 1 } :=
    (h.midTick hr).setIter (inRange_small (h.midTick hr).wordBits (v := 1) (by omega) (by omega)).2
  have hlatched : Latched s.fetchedInstr { s with iter := 1 } := by constructor <;> simp [hjump, hstrafe, hm]
  have hkept : ∀ u v, MidTick u ∧ Latched s.fetchedInstr u → u.runState = .running → exec s.fetchedInstr u = .next v →
      MidTick v ∧ Latched s.fetchedInstr v :=
    fun u v ⟨hu, hi⟩ hrun he => ⟨exec_midTick hu hrun he, exec_latched hi he⟩
  obtain ⟨ht, hi⟩ := repeatExec_induction hkept _ _ _ ⟨hmid, hlatched⟩ hr e
  exact ht.readyToMove hi

/-- Leaving IDLE or RUNNING without a fault: the start of a run and the tick cap. -/
theorem Inv.withRunState {s : State} (h : Inv s) {r : RunState} (hold : s.runState = .idle ∨ s.runState = .running)
    (hfault : r ≠ .faulted) (hgrid : r = .running → 0 < s.gw ∧ 0 < s.gh) : Inv { s with runState := r } :=
  { h with
    settled := fun _ => h.settled hold
    nonempty := hgrid
    faultCode := by
      have hnot : s.runState ≠ .faulted := by rcases hold with hs | hs <;> simp [hs]
      exact iff_of_false (fun hc => hnot (h.faultCode.1 hc)) hfault }

theorem startRun_inv {s : State} (h : Inv s) (hidle : s.runState = .idle) : Inv (startRun s) := by
  unfold startRun
  split_ifs with hempty
  · exact h.withRunState (.inl hidle) (by simp) (by simp)
  · exact h.withRunState (.inl hidle) (by simp) fun _ => by omega

theorem tickStep_inv {s t : State} (h : Inv s) (hr : s.runState = .running) (e : tickStep s = .next t) : Inv t := by
  obtain ⟨l, hook⟩ := tickHook_frame s
  have hhook := h.withStrobes l
  rcases tickStep_cases s with ⟨-, e'⟩ | ⟨-, hm, e'⟩ | ⟨-, hm, e'⟩
  · exact next_keeps (e'.symm.trans e) (h.withRunState (.inr hr) (by simp) (by simp))
  · rw [hook] at e'
    exact finishTick_inv (stringCell_readyToMove hhook hr) (e'.symm.trans e)
  · rw [hook] at e'
    exact finishTick_inv (fun _ => decodedCell_readyToMove hhook hr hm) (e'.symm.trans e)

/-- Settles O3, by the run state: the run start, a tick, and the three states in which a step changes nothing. -/
theorem stepKeepsInvariant : Obligations.StepKeepsInvariant := by
  intro s t h e
  unfold step coreStep at e
  split at e
  · exact next_keeps e (startRun_inv h ‹_›)
  · exact tickStep_inv h ‹_› e
  · exact next_keeps e h
  · exact next_keeps e h
  · exact next_keeps e h

end Sys2Proof.Machine
end

section
/-! PROOF. The writers of the grid, the faces and `idx` (20_memory.md R74; 10_state.md R36, R37): the opcodes that run no bridge write
none of the three, and the others write them only through the bridge or by their own effect. -/

namespace Sys2Proof.Machine

/-! ## The opcodes that run no bridge -/

/-- The three storages besides the stack. -/
structure Storage where
  grid : Memory
  faces : Vector Int 20
  idx : Vector (Fin 20) 20

def State.storage (s : State) : Storage := { grid := s.grid, faces := s.faces, idx := s.idx }

/-- The storages are `k`: a property to carry through a sequence. -/
abbrev HasStorage (k : Storage) (s : State) : Prop := s.storage = k

@[simp] theorem inRead_storage (s : State) : s.inRead.storage = s.storage := by simp [State.storage]
@[simp] theorem pushBack_storage (t : InItem) (s : State) : (s.pushBack t).storage = s.storage := by simp [State.storage]

theorem outAll_storage (l : List Byte) (s : State) : (State.outAll l s).storage = s.storage := by
  induction l generalizing s with
  | nil => rfl
  | cons b l ih => exact ih (s.outWrite b)

theorem readSign_storage (s : State) : (readSign s).2.storage = s.storage := by
  unfold readSign
  split_ifs <;> simp

theorem readDigits_storage (k : Nat) (val : Int) (s : State) : (readDigits k val s).2.storage = s.storage := by
  obtain ⟨_, _, e⟩ := readDigits_frame k val s
  rw [e]; rfl

theorem push_yields_storage {k : Storage} (v : Int) {s : State} (hs : s.storage = k) : (push v s).Yields (HasStorage k) := by
  rcases push_cases v s with ⟨-, e⟩ | ⟨-, e⟩ <;> rw [e]
  · exact Flow.yields_cont.2 hs
  · exact Flow.yields_stop.2 hs

theorem dividing_yields_storage (f : Int → Int → Int) (s : State) : (dividing f s).Yields (HasStorage s.storage) := by
  unfold dividing
  split_ifs
  · exact Flow.yields_stop.2 rfl
  · exact push_yields_storage (s := s.popped.popped) _ rfl

/-- R189: what runs no bridge writes no storage but the stack. -/
theorem exec_storage {i : Instr} {s t : State} (hi : ¬ runsBridge i) (h : exec i s = .next t) : t.storage = s.storage := by
  cases i with
  | rotEdgeNw | rotEdgeNe | rotEdgeS | rotEdgeNwN | rotEdgeNeSe | rotEdgeSSw | rotCornerN | rotCornerSe | rotCornerSw
  | rotFace | rotFlip | roll | rotCond | rotRand | store | icoMoveW | icoMoveE | icoMoveNw | icoMoveNe | icoMoveSw | icoMoveSe
  | rotateCells => simp [runsBridge, isRotation, namedRotation, cursorMoveDir] at hi
  | mirrorSwNe | mirrorNwSe | mirrorWE | mirrorNS | turnL | turnR | turnC | strafe | skip | iterate | discard | reverse | rotl
  | rotr | cursorEnd | writeByte | writeNl | stringToggle | terminate | nop => exact next_keeps (P := HasStorage s.storage) h rfl
  | skipZ | debug =>
    refine next_keeps (P := HasStorage s.storage) h ?_
    split_ifs <;> rfl
  | printInt => exact next_keeps (P := HasStorage s.storage) h (outAll_storage _ s.popped)
  | push0 | depth | pushFace | load => exact push_yields_storage (s := s) _ rfl t h
  | digit | inc | dec | not | neg | bnot => exact push_yields_storage (s := s.popped) _ rfl t h
  | add | sub | mul | and | or | xor => exact push_yields_storage (s := s.popped.popped) _ rfl t h
  | div | mod => exact dividing_yields_storage _ s t h
  | dup =>
    simp only [exec, execDup] at h
    split_ifs at h <;> exact push_yields_storage (s := s) _ rfl t h
  | swap => exact (push_yields_storage (s := s.popped.popped) _ rfl).bind (fun _ hu => push_yields_storage _ hu) t h
  | readByte => exact push_yields_storage _ (inRead_storage s) t h
  | readInt => exact push_yields_storage _ ((readDigits_storage _ _ _).trans (readSign_storage s)) t h
  | jump | cursorGet | cursorSet => exact withCoord_yields (P := HasStorage s.storage) (fun _ _ => rfl) t h

/-! ## The opcodes that run the bridge -/

/-- R321 to R331. -/
theorem exec_of_namedRotation {i : Instr} {r : Rotation} (s : State) (h : namedRotation i = some r) :
    exec i s = (rot r s).outcome := by
  unfold namedRotation at h
  split at h <;> cases h <;> rfl

/-- R343 to R348. -/
theorem exec_of_cursorMoveDir {i : Instr} {d : Dir} (s : State) (h : cursorMoveDir i = some d) :
    exec i s = (icoMove d s).outcome := by
  unfold cursorMoveDir at h
  split at h <;> cases h <;> rfl

/-- What an execution of `i` from `s` may have changed of the storages in the state `t`. The bridge chooses by
the cursor mode it finds, which an opcode that runs it has kept since `s`. -/
structure StorageFrame (i : Instr) (s t : State) : Prop where
  cmode : runsBridge i → t.cmode = s.cmode
  grid : t.grid ≠ s.grid → i = .rotateCells ∨ (runsBridge i ∧ s.cmode = .set)
  faces : t.faces ≠ s.faces → i = .store ∨ (runsBridge i ∧ s.cmode = .get)
  idx : t.idx ≠ s.idx → isRotation i ∨ ((cursorMoveDir i).isSome ∧ s.cmode ≠ .none)

namespace StorageFrame

variable {i : Instr} {s u : State}

theorem of_storage (hi : ¬ runsBridge i) (h : u.storage = s.storage) : StorageFrame i s u := by
  simp only [State.storage, Storage.mk.injEq] at h
  obtain ⟨hgrid, hfaces, hidx⟩ := h
  exact ⟨fun hb => absurd hb hi, absurd hgrid, absurd hfaces, absurd hidx⟩

/-- A state with the storages and the cursor mode of `s`: where the executions start, after their pops and draws. -/
theorem of_same (hcmode : u.cmode = s.cmode) (hgrid : u.grid = s.grid) (hfaces : u.faces = s.faces) (hidx : u.idx = s.idx) :
    StorageFrame i s u :=
  ⟨fun _ => hcmode, absurd hgrid, absurd hfaces, absurd hidx⟩

theorem refl (i : Instr) (s : State) : StorageFrame i s s := of_same rfl rfl rfl rfl

/-- R189: the face in mode Get, the cell in mode Set. -/
theorem bridge_yields (h : StorageFrame i s u) (hi : runsBridge i) : (bridge u).Yields (StorageFrame i s) := by
  have hmode := h.cmode hi
  rcases bridge_cases u with ⟨-, e⟩ | ⟨hget, e⟩ | ⟨hset, -, e⟩ | ⟨-, -, e⟩ <;> rw [e]
  · exact Flow.yields_cont.2 h
  · exact Flow.yields_cont.2 { h with faces := fun _ => .inr ⟨hi, hmode ▸ hget⟩ }
  · exact Flow.yields_cont.2 { h with grid := fun _ => .inr ⟨hi, hmode ▸ hset⟩ }
  · exact Flow.yields_fail

/-- An opcode that may permute `idx` from `s` keeps its frame through rotations and bridges. -/
theorem keptByIco (hi : runsBridge i) (hidx : isRotation i ∨ ((cursorMoveDir i).isSome ∧ s.cmode ≠ .none)) :
    KeptByIco (StorageFrame i s) where
  rotate_yields r u hu := by
    rcases rotate_cases r u with ⟨-, e⟩ | ⟨-, e⟩ <;> rw [e]
    · exact Flow.yields_cont.2 { hu with idx := fun _ => hidx }
    · exact Flow.yields_stop.2 { hu with }
  bridge_yields _ hu := hu.bridge_yields hi
  randNext u hu := by
    unfold State.randNext
    split <;> exact { hu with }
  setIcoPos _ _ _ hu := { hu with }

/-- R362: ROTATE_CELLS writes the cells of its ring by itself. -/
theorem writeCells_yields (l : List (Coord × Int)) (h : StorageFrame .rotateCells s u) :
    (writeCells l u).Yields (StorageFrame .rotateCells s) := by
  induction l generalizing u with
  | nil => exact Flow.yields_cont.2 h
  | cons e l ih =>
    rw [writeCells]
    rcases gridWrite_cases e.1 e.2 u with ⟨-, he⟩ | ⟨-, he⟩ <;> rw [he]
    · exact ih { h with grid := fun _ => .inl rfl }
    · exact Flow.yields_fail

theorem rotateBlock_yields (y xh m : Int) (h : StorageFrame .rotateCells s u) :
    (rotateBlock y xh m u).Yields (StorageFrame .rotateCells s) := by
  unfold rotateBlock
  split_ifs
  · exact (writeCells_yields _ h).bind fun _ hv => hv.bridge_yields (.inr (.inr (.inr rfl)))
  · exact Flow.yields_cont.2 h

/-- R342: in mode None a cursor move does nothing. -/
theorem icoMove_yields {d : Dir} (hi : cursorMoveDir i = some d) : (icoMove d s).Yields (StorageFrame i s) := by
  have hsome : (cursorMoveDir i).isSome := Option.isSome_of_eq_some hi
  by_cases hnone : s.cmode = .none
  · rw [icoMove, if_pos hnone]
    exact Flow.yields_cont.2 (refl i s)
  · exact (keptByIco (.inr (.inr (.inl hsome))) (.inr ⟨hsome, hnone⟩)).icoMove_yields d (refl i s)

end StorageFrame

theorem exec_storageFrame_of_isRotation {i : Instr} {s t : State} (hi : isRotation i) (h : exec i s = .next t) :
    StorageFrame i s t := by
  have ico : KeptByIco (StorageFrame i s) := StorageFrame.keptByIco (.inl hi) (.inl hi)
  rcases hi with hnamed | rfl | rfl | rfl
  · obtain ⟨r, hr⟩ := Option.isSome_iff_exists.1 hnamed
    exact ico.rot_yields r (.refl i s) t ((exec_of_namedRotation s hr).symm.trans h)
  · exact ico.execRoll_keeps (.refl _ s) h
  · exact ico.rot_yields (s := s.popped) _ (.of_same rfl rfl rfl rfl) t h
  · exact ico.rot_yields (s := s.randNext) _ (ico.randNext s (.refl _ s)) t h

theorem exec_storageFrame {i : Instr} {s t : State} (h : exec i s = .next t) : StorageFrame i s t := by
  by_cases hi : runsBridge i
  · rcases hi with hrot | rfl | hmove | rfl
    · exact exec_storageFrame_of_isRotation hrot h
    · have hstored : StorageFrame .store s (s.popped.icoStore s.top) := { StorageFrame.refl .store s with faces := fun _ => .inl rfl }
      exact hstored.bridge_yields (.inr (.inl rfl)) t h
    · obtain ⟨d, hd⟩ := Option.isSome_iff_exists.1 hmove
      exact StorageFrame.icoMove_yields hd t ((exec_of_cursorMoveDir s hd).symm.trans h)
    · exact StorageFrame.rotateBlock_yields (s := s) (u := s.popped.popped.popped) _ _ _ (.of_same rfl rfl rfl rfl) t h
  · exact .of_storage hi (exec_storage hi h)

/-- Settles O17: the frame of an execution, without its clause on the cursor mode. -/
theorem onlyNamedOpcodesWriteStorage : Obligations.OnlyNamedOpcodesWriteStorage := by
  intro i s t h
  obtain ⟨-, hgrid, hfaces, hidx⟩ := exec_storageFrame h
  exact ⟨hgrid, hfaces, hidx⟩

end Sys2Proof.Machine
end

section
/-! PROOF. The decoder and the encoder of a grid cell (30_encoding.md R102 to R106): a byte is assigned to an instruction by the spec or by
`OPCODE_MAP`, the decoder answers an assigned byte with its instruction and every other value with NOP, and the encoder gives assigned
bytes. -/

namespace Sys2Proof.Machine

/-! ## The fixed bytes -/

/-- The encoder's fixed bytes are those of the decoder's fixed map (R103). -/
theorem fixedByteOf_eq_some_iff (i : Instr) (b : Nat) : fixedByteOf i = some b ↔ fixedOp b = some i := by
  revert b
  cases i with
  | stringToggle => exact Laws.FixedByte.stringToggle
  | push0 => exact Laws.FixedByte.push0
  | add => exact Laws.FixedByte.add
  | sub => exact Laws.FixedByte.sub
  | digit d => exact Laws.FixedByte.digit d
  | terminate => exact Laws.FixedByte.terminate
  | readInt => exact Laws.FixedByte.readInt
  | printInt => exact Laws.FixedByte.printInt
  | _ => exact Laws.FixedByte.statement_of_none rfl (by simp)

/-- The bytes on which the fixed map is defined are the seventeen of R103. -/
theorem fixedOp_isSome (b : Nat) : (fixedOp b).isSome = isFixedByte b := by
  unfold fixedOp isFixedByte
  split_ifs <;> simp_all

theorem isFixedByte_bounds {b : Nat} (h : isFixedByte b = true) : 0x20 ≤ b ∧ b ≤ 0x7E := by
  simp only [isFixedByte, Bool.or_eq_true, Bool.and_eq_true, beq_iff_eq, decide_eq_true_eq] at h
  omega

theorem fixedOp_bounds {b : Nat} {i : Instr} (h : fixedOp b = some i) : 0x20 ≤ b ∧ b ≤ 0x7E :=
  isFixedByte_bounds (by rw [← fixedOp_isSome, h]; rfl)

/-- R106: the fixed digits are 0 to 9. -/
theorem wf_of_fixedByteOf {b : Nat} {i : Instr} (h : fixedByteOf i = some b) : i.wf = true := by
  cases i with
  | digit d =>
    simp only [fixedByteOf, Option.ite_none_right_eq_some] at h
    exact decide_eq_true h.1
  | _ => rfl

/-! ## The bytes of `OPCODE_MAP` -/

/-- What R103 asks of one entry of `OPCODE_MAP`. -/
structure OpenEntry (b : Nat) (i : Instr) : Prop where
  low : 0x20 ≤ b
  high : b ≤ 0x7E
  notFixed : isFixedByte b = false
  notDigit : isDigitInstr i = false

theorem OpcodeMap.openEntry_of_ok {m : OpcodeMap} {b : Nat} {i : Instr} (hm : m.ok = true) (h : (b, i) ∈ m) : OpenEntry b i := by
  simp only [OpcodeMap.ok, Bool.and_eq_true, List.all_eq_true, decide_eq_true_eq, Bool.not_eq_true'] at hm
  obtain ⟨hentries, -⟩ := hm
  obtain ⟨⟨⟨hlow, hhigh⟩, hfixed⟩, hdigit⟩ := hentries _ h
  exact ⟨hlow, hhigh, hfixed, hdigit⟩

theorem OpcodeMap.nodup_of_ok {m : OpcodeMap} (hm : m.ok = true) : (m.map Prod.fst).Nodup :=
  of_decide_eq_true (Bool.and_eq_true_iff.1 hm).2

theorem OpenEntry.wf {b : Nat} {i : Instr} (h : OpenEntry b i) : i.wf = true := by
  cases i with
  | digit d => exact absurd h.notDigit (by simp [isDigitInstr])
  | _ => rfl

theorem OpenEntry.fixedOp_eq_none {b : Nat} {i : Instr} (h : OpenEntry b i) : fixedOp b = none :=
  Option.not_isSome_iff_eq_none.1 (by rw [fixedOp_isSome, h.notFixed]; decide)

theorem mem_of_mapLookup {m : OpcodeMap} {b : Nat} {i : Instr} (h : mapLookup m b = some i) : (b, i) ∈ m := by
  induction m with
  | nil => cases h
  | cons e m ih =>
    rw [mapLookup] at h
    split_ifs at h with hb
    · cases h; cases hb; exact List.mem_cons_self
    · exact List.mem_cons_of_mem _ (ih h)

/-- Constraint 4 of R103: a byte with one entry is answered by it. -/
theorem mapLookup_of_mem {m : OpcodeMap} {b : Nat} {i : Instr} (hm : (m.map Prod.fst).Nodup) (h : (b, i) ∈ m) :
    mapLookup m b = some i := by
  induction m with
  | nil => cases h
  | cons e m ih =>
    obtain ⟨hnew, hrest⟩ := List.nodup_cons.1 hm
    rw [mapLookup]
    rcases List.mem_cons.1 h with rfl | hmem
    · exact if_pos rfl
    · have hne : e.1 ≠ b := fun hb => hnew (hb ▸ List.mem_map_of_mem (f := Prod.fst) hmem)
      rw [if_neg hne, ih hrest hmem]

theorem mem_of_mapByteOf {m : OpcodeMap} {b : Nat} {i : Instr} (h : mapByteOf m i = some b) : (b, i) ∈ m := by
  induction m with
  | nil => cases h
  | cons e m ih =>
    rw [mapByteOf] at h
    split_ifs at h with hi
    · cases h; cases hi; exact List.mem_cons_self
    · exact List.mem_cons_of_mem _ (ih h)

/-! ## The decoder and the encoder -/

/-- The byte is the fixed one of the instruction or one that `OPCODE_MAP` gives it. -/
def AssignedByte (m : OpcodeMap) (i : Instr) (b : Nat) : Prop := fixedByteOf i = some b ∨ (b, i) ∈ m

theorem AssignedByte.wf {m : OpcodeMap} {i : Instr} {b : Nat} (hm : m.ok = true) (h : AssignedByte m i b) : i.wf = true :=
  h.elim wf_of_fixedByteOf fun hmem => (OpcodeMap.openEntry_of_ok hm hmem).wf

/-- All that the decoder can answer, under any map: NOP, or the instruction of an assigned byte within 0x20..0x7E (R102). -/
theorem decode_cases (m : OpcodeMap) (v : Int) :
    decode m v = .nop ∨ ∃ b : Nat, v = b ∧ 0x20 ≤ b ∧ b ≤ 0x7E ∧ AssignedByte m (decode m v) b := by
  by_cases hout : v < 0 ∨ 0x7F < v
  · exact .inl (if_pos hout)
  obtain ⟨b, rfl⟩ := Int.eq_ofNat_of_zero_le (show 0 ≤ v by omega)
  rw [decode, if_neg hout, Int.toNat_natCast]
  cases hfix : fixedOp b with
  | some i =>
    obtain ⟨hlow, hhigh⟩ := fixedOp_bounds hfix
    exact .inr ⟨b, rfl, hlow, hhigh, .inl ((fixedByteOf_eq_some_iff i b).2 hfix)⟩
  | none =>
    by_cases hopen : (0x20 : Int) ≤ b ∧ (b : Int) ≤ 0x7E
    · simp only [if_pos hopen]
      cases hmap : mapLookup m b with
      | none => exact .inl rfl
      | some i => exact .inr ⟨b, rfl, by omega, by omega, .inr (mem_of_mapLookup hmap)⟩
    · exact .inl (if_neg hopen)

/-- R102: a fixed byte decodes under every map. -/
theorem decode_of_fixedByteOf (m : OpcodeMap) {i : Instr} {b : Nat} (h : fixedByteOf i = some b) : decode m b = i := by
  have hfix : fixedOp b = some i := (fixedByteOf_eq_some_iff i b).1 h
  have hb := fixedOp_bounds hfix
  rw [decode, if_neg (by omega), Int.toNat_natCast, hfix]

/-- R102: a byte of an allowed map is not fixed, and decodes to its entry. -/
theorem decode_of_mem {m : OpcodeMap} {i : Instr} {b : Nat} (hm : m.ok = true) (h : (b, i) ∈ m) : decode m b = i := by
  have he : OpenEntry b i := OpcodeMap.openEntry_of_ok hm h
  have hlow := he.low
  have hhigh := he.high
  rw [decode, if_neg (by omega), Int.toNat_natCast, he.fixedOp_eq_none, mapLookup_of_mem (OpcodeMap.nodup_of_ok hm) h]
  exact if_pos (by omega)

theorem AssignedByte.decode_eq {m : OpcodeMap} {i : Instr} {b : Nat} (hm : m.ok = true) (h : AssignedByte m i b) : decode m b = i :=
  h.elim (decode_of_fixedByteOf m) (decode_of_mem hm)

/-- R103 and R105: no byte outside 0x20..0x7E is fixed or looked up in the map. -/
theorem decode_eq_nop_of_outside (m : OpcodeMap) {v : Int} (h : v < 0x20 ∨ 0x7E < v) : decode m v = .nop :=
  (decode_cases m v).resolve_right fun ⟨b, hv, hlow, hhigh, _⟩ => by omega

/-- The encoder gives an assigned byte, and to NOP without one the padding value 0 (R104). -/
theorem encode_cases {m : OpcodeMap} {i : Instr} {w : Int} (h : encode m i = some w) :
    (∃ b : Nat, w = b ∧ AssignedByte m i b) ∨ (i = .nop ∧ w = 0) := by
  unfold encode at h
  cases hfix : fixedByteOf i with
  | some b =>
    rw [hfix] at h
    exact .inl ⟨b, (Option.some.inj h).symm, .inl hfix⟩
  | none =>
    cases hmap : mapByteOf m i with
    | some b =>
      rw [hfix, hmap] at h
      exact .inl ⟨b, (Option.some.inj h).symm, .inr (mem_of_mapByteOf hmap)⟩
    | none =>
      simp only [hfix, hmap, Option.ite_none_right_eq_some, Option.some.injEq] at h
      exact .inr ⟨h.1, h.2.symm⟩

/-- Settles O23: an encoding is an assigned byte or the padding value, and the decoder answers both. -/
theorem decodeInvertsEncode : Obligations.DecodeInvertsEncode := by
  intro m i w hm _ he
  rcases encode_cases he with ⟨b, rfl, hb⟩ | ⟨rfl, rfl⟩
  · exact hb.decode_eq hm
  · exact decode_eq_nop_of_outside m (by omega)

/-- Settles O24: what the decoder can answer, and its answer to an assigned byte. -/
theorem decodeReadsOnlyAssignedBytes : Obligations.DecodeReadsOnlyAssignedBytes := by
  intro m v hm
  constructor
  · rcases decode_cases m v with hnop | ⟨b, -, -, -, hb⟩
    · rw [hnop]; rfl
    · exact hb.wf hm
  · intro i hi
    constructor
    · rintro rfl
      obtain ⟨b, hv, -, -, hb⟩ := (decode_cases m v).resolve_left hi
      exact ⟨b, hv, hb⟩
    · rintro ⟨b, rfl, hb⟩
      exact AssignedByte.decode_eq hm hb

/-- Settles O25: the fixed bytes by `fixedByteOf`, the other four values as lying outside 0x20..0x7E. -/
theorem fixedBytesDecode : Obligations.FixedBytesDecode := by
  intro m
  have hfix {i : Instr} {b : Nat} (h : fixedByteOf i = some b) : decode m b = i := decode_of_fixedByteOf m h
  have hout {v : Int} (h : v < 0x20 ∨ 0x7E < v) : decode m v = .nop := decode_eq_nop_of_outside m h
  exact ⟨hfix (b := 0x22) rfl, hfix (b := 0x23) rfl, hfix (b := 0x2B) rfl, hfix (b := 0x2D) rfl,
    fun d hd => hfix (b := 0x30 + d) (if_pos hd), hfix (b := 0x40) rfl, hfix (b := 0x49) rfl, hfix (b := 0x4F) rfl,
    hout (by decide), hout (by decide), hout (by decide), hout (by decide)⟩

end Sys2Proof.Machine
end

section
/-! PROOF. The one-cell step (40_direction_algebra.md R141, R145, R150, R151, R155). Every step vector has an odd coordinate sum, so a
step changes the parity of the cell; and the reversed direction has, at the other parity, the opposite vector. -/

namespace Sys2Proof.Machine

/-! ## Coordinates -/

theorem coordAdd_assoc (a b c : Coord) : coordAdd (coordAdd a b) c = coordAdd a (coordAdd b c) := by
  simp only [coordAdd, Int.add_assoc]

@[simp] theorem coordAdd_zero (c : Coord) : coordAdd c ⟨0, 0⟩ = c := by
  simp only [coordAdd, Int.add_zero]

/-- `is_upward` says that the coordinate sum is even (R141). -/
theorem isUpward_iff (c : Coord) : isUpward c = true ↔ (2 : Int) ∣ c.x + c.y := by
  rw [isUpward, beq_iff_eq, fmod, Int.dvd_iff_fmod_eq_zero]

theorem isUpward_eq_false_iff (c : Coord) : isUpward c = false ↔ ¬ (2 : Int) ∣ c.x + c.y := by
  rw [← isUpward_iff, Bool.not_eq_true]

/-! ## The step vectors -/

theorem stepVector_sum_odd (d : Dir) (p : Bool) : ¬ (2 : Int) ∣ (stepVector d p).x + (stepVector d p).y := by
  cases p <;> cases d <;> decide

theorem coordAdd_stepVector_reverseDir (d : Dir) (p : Bool) :
    coordAdd (stepVector d p) (stepVector (reverseDir d) (!p)) = ⟨0, 0⟩ := by
  cases p <;> cases d <;> rfl

theorem stepVector_upward_mem (d : Dir) : stepVector d true ∈ [(⟨-1, 0⟩ : Coord), ⟨1, 0⟩, ⟨0, 1⟩] := by
  cases d <;> decide

theorem stepVector_downward_mem (d : Dir) : stepVector d false ∈ [(⟨-1, 0⟩ : Coord), ⟨1, 0⟩, ⟨0, -1⟩] := by
  cases d <;> decide

/-! ## The step -/

theorem stepFrom_of_parity {c : Coord} {p : Bool} (hp : isUpward c = p) (d : Dir) :
    stepFrom d c = coordAdd c (stepVector d p) := by
  rw [stepFrom, hp]

/-- A step crosses an edge, so it lands on a cell of the other parity. -/
theorem isUpward_stepFrom (d : Dir) (c : Coord) : isUpward (stepFrom d c) = !isUpward c := by
  have hodd := stepVector_sum_odd d (isUpward c)
  cases hc : isUpward c with
  | true =>
    have heven := (isUpward_iff c).mp hc
    rw [Bool.not_true, isUpward_eq_false_iff]
    simp only [stepFrom, coordAdd]
    omega
  | false =>
    have hdown := (isUpward_eq_false_iff c).mp hc
    rw [Bool.not_false, isUpward_iff]
    simp only [stepFrom, coordAdd]
    omega

/-- Settles O21: the cell stepped to has the other parity, where the reversed direction has the opposite vector. -/
theorem stepIsReversible : Obligations.StepIsReversible := by
  intro d c
  calc stepFrom (reverseDir d) (stepFrom d c)
      = coordAdd (stepFrom d c) (stepVector (reverseDir d) (!isUpward c)) := stepFrom_of_parity (isUpward_stepFrom d c) _
    _ = coordAdd c (coordAdd (stepVector d (isUpward c)) (stepVector (reverseDir d) (!isUpward c))) := coordAdd_assoc ..
    _ = c := by rw [coordAdd_stepVector_reverseDir, coordAdd_zero]

/-- Settles O22: the parity of the cell picks the three vectors, and its neighbours are the cell plus each of them. -/
theorem stepLandsOnEdgeNeighbour : Obligations.StepLandsOnEdgeNeighbour := by
  intro d c
  constructor
  · intro heven
    rw [stepFrom_of_parity ((isUpward_iff c).mpr heven)]
    simpa [coordAdd, ← sub_eq_add_neg] using List.mem_map_of_mem (f := coordAdd c) (stepVector_upward_mem d)
  · intro hodd
    rw [stepFrom_of_parity ((isUpward_eq_false_iff c).mpr hodd)]
    simpa [coordAdd, ← sub_eq_add_neg] using List.mem_map_of_mem (f := coordAdd c) (stepVector_downward_mem d)

end Sys2Proof.Machine
end

section
/-! PROOF. The algebra of the permutation tables (41_ico_engine.md R184, R186, R190): two permutations of `idx` are one by the composed
table, so the orders that R186 gives the tables are the orders of the opcodes, as long as no bridge writes between them. -/

namespace Sys2Proof.Machine

/-! ## Tables compose -/

/-- Settles O45: the entry of the outer permutation, then that of the inner one. -/
theorem rotationsComposeInReverseOrder : Obligations.RotationsComposeInReverseOrder := by
  intro pa pb idx i
  calc (permute pb (permute pa idx))[i]
      = (permute pa idx)[pb[i]] := permute_get ..
    _ = idx[pa[pb[i]]] := permute_get ..

theorem file_ext {v w : Vector (Fin 20) 20} (h : ∀ k : Fin 20, v[k] = w[k]) : v = w :=
  Vector.ext fun k hk => h ⟨k, hk⟩

/-- R190 as one table: `A` and then `B` is the table `B` applied to `A`. -/
theorem permute_permute (pa pb : PermTable) (idx : Vector (Fin 20) 20) :
    permute pb (permute pa idx) = permute (permute pb pa) idx :=
  file_ext fun k => by simp only [permute_get]

theorem identityPerm_get : ∀ k : Fin 20, identityPerm[k] = k := by decide

@[simp] theorem permute_identityPerm (idx : Vector (Fin 20) 20) : permute identityPerm idx = idx :=
  file_ext fun k => by simp only [permute_get, identityPerm_get]

theorem State.permuted_permuted (s : State) (pa pb : PermTable) : (s.permuted pa).permuted pb = s.permuted (permute pb pa) := by
  simp only [State.permuted, permute_permute]

@[simp] theorem State.permuted_identityPerm (s : State) : s.permuted identityPerm = s := by
  simp only [State.permuted, permute_identityPerm]

@[simp] theorem State.permuted_table (s : State) (p : PermTable) (r : Rotation) : (s.permuted p).table r = s.table r := rfl

/-! ## The orders of the tables -/

/-- The rotations that R186 makes their own inverses. -/
def involutions : List Rotation := [.edgeNw, .edgeNe, .edgeS, .edgeNwN, .edgeNeSe, .edgeSSw, .flip]

/-- The constraints of R186 on the orders, by the name of the rotation. -/
theorem RotTable.ok_orders {t : RotTable} (h : t.ok = true) :
    (∀ r ∈ involutions, permute t[rotationIndex r] t[rotationIndex r] = identityPerm) ∧
    permute t[rotationIndex .face] (permute t[rotationIndex .face] t[rotationIndex .face]) = identityPerm := by
  simp only [RotTable.ok, Bool.and_eq_true, decide_eq_true_eq] at h
  obtain ⟨⟨⟨⟨⟨⟨⟨⟨-, hface⟩, hflip⟩, hnw⟩, hne⟩, hs⟩, hnwN⟩, hneSe⟩, hsSw⟩ := h
  refine ⟨?_, hface⟩
  simp only [involutions, List.forall_mem_cons]
  exact ⟨hnw, hne, hs, hnwN, hneSe, hsSw, hflip, by simp⟩

/-! ## Rotations without a cursor -/

theorem bridge_noCursor {s : State} (hc : s.cmode = .none) : bridge s = .cont s := by rw [bridge, hc]

/-- A state in which a named rotation does nothing but permute `idx`. -/
structure RotatesFreely (s : State) : Prop where
  tables : s.params.rotTable.ok = true
  bijection : s.idx.toList.Nodup
  noCursor : s.cmode = .none

theorem Inv.rotatesFreely {s : State} (h : Inv s) (hc : s.cmode = .none) : RotatesFreely s :=
  ⟨Params.rotTable_of_ok h.params, h.idxBijection, hc⟩

namespace RotatesFreely

variable {s : State} {i : Instr} {r : Rotation}

theorem permuted (h : RotatesFreely s) (r : Rotation) : RotatesFreely (s.permuted (s.table r)) :=
  { h with bijection := permute_nodup (RotTable.ok_nodup h.tables _) h.bijection }

/-- R320: the permutation, and a bridge that does nothing in mode None. -/
theorem exec_eq (h : RotatesFreely s) (hr : namedRotation i = some r) : exec i s = .next (s.permuted (s.table r)) := by
  rw [exec_of_namedRotation s hr, rot, rotate_ok r h.tables h.bijection, Flow.bind_cont, bridge_noCursor (h.permuted r).noCursor,
    Flow.outcome_cont]

/-- The second execution applies the same table, so the two are one permutation by its square. -/
theorem exec_exec_eq (h : RotatesFreely s) (hr : namedRotation i = some r) :
    exec i (s.permuted (s.table r)) = .next (s.permuted (permute (s.table r) (s.table r))) := by
  rw [(h.permuted r).exec_eq hr, State.permuted_table, State.permuted_permuted]

end RotatesFreely

/-- Settles O46: `k` executions without a cursor are one permutation by the `k`-th power of the table, which R186 makes the identity. -/
theorem rotationOrdersRestoreTheState : Obligations.RotationOrdersRestoreTheState := by
  intro s hinv hc
  have h : RotatesFreely s := hinv.rotatesFreely hc
  obtain ⟨hinvolution, hface⟩ := RotTable.ok_orders h.tables
  constructor
  · intro i hi
    obtain ⟨r, hr, hname⟩ : ∃ r ∈ involutions, namedRotation i = some r := by
      revert i
      decide
    refine ⟨_, h.exec_eq hname, ?_⟩
    rw [h.exec_exec_eq hname, State.table, hinvolution r hr, State.permuted_identityPerm]
  · have hname : namedRotation .rotFace = some .face := rfl
    refine ⟨_, _, h.exec_eq hname, (h.permuted .face).exec_eq hname, ?_⟩
    rw [((h.permuted .face).permuted _).exec_eq hname]
    simp only [State.permuted_table, State.permuted_permuted]
    rw [State.table, hface, State.permuted_identityPerm]

end Sys2Proof.Machine
end

section
/-! PROOF. The move phase (42_tick_and_move.md R218 to R223). A boundary reflection has order three at either parity, and from any direction
the three tries take the steps to the three neighbours of the cell, each once: so more tries would find nothing new, and a cell where
none succeeds has no neighbour in the grid. -/

namespace Sys2Proof.Machine

/-! ## The branches of the move -/

theorem moveAndCount_of_cont {s t : State} (h : move s = .cont t) : moveAndCount s = .next { t with tick := t.tick + 1 } := by
  rw [moveAndCount, h]

theorem moveAndCount_of_stop {s t : State} (h : move s = .stop t) : moveAndCount s = .next t := by
  rw [moveAndCount, h]

theorem move_of_jump {s : State} (hj : s.jumpValid = true) :
    move s = .cont { s with ip := s.jumpTarget, jumpValid := false } :=
  if_pos hj

theorem move_of_strafe_inside {s : State} (hj : s.jumpValid = false) (hs : s.strafePending = true)
    (hin : s.InBounds (strafeFrom s.params.strafe s.dir s.ip)) :
    move s = .cont { s with strafePending := false, ip := strafeFrom s.params.strafe s.dir s.ip } := by
  rw [move, hj, hs, if_pos rfl, if_pos hin, if_neg Bool.false_ne_true]

theorem move_of_strafe_outside {s : State} (hj : s.jumpValid = false) (hs : s.strafePending = true)
    (hout : ¬ s.InBounds (strafeFrom s.params.strafe s.dir s.ip)) : move s = normalStep { s with strafePending := false } := by
  rw [move, hj, hs, if_pos rfl, if_neg hout, if_neg Bool.false_ne_true]

/-- R222 is reached when neither a jump nor a strafe is pending. -/
theorem move_of_nothing_pending {s : State} (hj : s.jumpValid = false) (hs : s.strafePending = false) : move s = normalStep s := by
  rw [move, hj, hs, if_neg Bool.false_ne_true, if_neg Bool.false_ne_true]

/-- Settles O18: a strafe out of bounds and the same state without the strafe both take the normal step. -/
theorem jumpThenStrafeThenStep : Obligations.JumpThenStrafeThenStep := by
  intro s
  refine ⟨fun _ => moveAndCount_of_cont, fun _ => moveAndCount_of_stop, move_of_jump, move_of_strafe_inside, fun hj hs hout => ?_⟩
  calc move s = normalStep { s with strafePending := false } := move_of_strafe_outside hj hs hout
    _ = move { s with strafePending := false } := (move_of_nothing_pending (s := { s with strafePending := false }) hj rfl).symm

/-! ## The tries -/

/-- The direction after `j` boundary reflections at the cell `c` (R222). -/
abbrev reflected (c : Coord) (j : Nat) (d : Dir) : Dir := (fun x => reflectBoundary x c)^[j] d

/-- The step of the try after `j` reflections is in bounds. -/
abbrev State.TryInBounds (s : State) (j : Nat) : Prop := s.InBounds (stepFrom (reflected s.ip j s.dir) s.ip)

theorem reflected_add_three (c : Coord) (j : Nat) (d : Dir) : reflected c (j + 3) d = reflected c j d :=
  calc reflected c (j + 3) d
      = reflected c j (reflected c 3 d) := Function.iterate_add_apply _ j 3 d
    _ = reflected c j d := congrArg (reflected c j) (reflectBoundary_three d c)

/-- From the fourth on a try repeats an earlier one. -/
theorem State.tryInBounds_add_three (s : State) (j : Nat) : s.TryInBounds (j + 3) ↔ s.TryInBounds j := by
  rw [State.TryInBounds, reflected_add_three]

theorem first_try_lt_three {s : State} {k : Nat} (hfirst : ∀ j, j < k → ¬ s.TryInBounds j) (hk : s.TryInBounds k) : k < 3 := by
  by_contra hge
  obtain ⟨j, rfl⟩ := Nat.exists_eq_add_of_le' (not_lt.1 hge)
  exact hfirst j (by omega) ((s.tryInBounds_add_three j).1 hk)

theorem normalStep_of_first_try {s : State} {k : Nat} (hfirst : ∀ j, j < k → ¬ s.TryInBounds j) (hk : s.TryInBounds k) :
    normalStep s = .cont { s with dir := reflected s.ip k s.dir, ip := stepFrom (reflected s.ip k s.dir) s.ip } := by
  rcases findStep_cases s 3 s.dir with ⟨j, -, hbefore, hj, e⟩ | ⟨hnone, -⟩
  · have hle : j ≤ k := not_lt.1 fun hlt => hbefore k hlt hk
    have hge : k ≤ j := not_lt.1 fun hlt => hfirst j hlt hj
    obtain rfl := hle.antisymm hge
    rw [normalStep, e]
  · exact absurd hk (hnone k (first_try_lt_three hfirst hk))

/-- Settles O19: a first success after three or more reflections would have come three tries earlier, so it is one of the three tries. -/
theorem threeTriesMatchUnboundedReflection : Obligations.ThreeTriesMatchUnboundedReflection := by
  intro s k hj hs _ hfirst hk
  rw [move_of_nothing_pending hj hs]
  exact normalStep_of_first_try hfirst hk

/-! ## The isolated cells -/

/-- The displacements to the three edge neighbours of a cell of the given parity (40_direction_algebra.md R151). -/
def neighbourVectors : Bool → List Coord
  | true => [⟨-1, 0⟩, ⟨1, 0⟩, ⟨0, 1⟩]
  | false => [⟨-1, 0⟩, ⟨1, 0⟩, ⟨0, -1⟩]

/-- The vectors of the three tries from a direction at a cell of the given parity (R222). -/
def triedVectors (d : Dir) (p : Bool) : List Coord :=
  [stepVector d p, stepVector (reflectBoundaryTable d p) p, stepVector (reflectBoundaryTable (reflectBoundaryTable d p) p) p]

theorem triedVectors_perm (d : Dir) (p : Bool) : (triedVectors d p).Perm (neighbourVectors p) := by
  cases p <;> cases d <;> decide

theorem forall_mem_triple {α : Type} {P : α → Prop} {a b c : α} : (∀ v ∈ [a, b, c], P v) ↔ P a ∧ P b ∧ P c := by
  simp only [List.forall_mem_cons, List.not_mem_nil, false_implies, implies_true, and_true]

/-- Whatever the direction, the tries fail together exactly if no neighbour is in bounds. -/
theorem no_try_iff_no_neighbour (s : State) :
    (∀ j, j < 3 → ¬ s.TryInBounds j) ↔ ∀ v ∈ neighbourVectors (isUpward s.ip), ¬ s.InBounds (coordAdd s.ip v) := by
  have htries : (∀ j, j < 3 → ¬ s.TryInBounds j) ↔ ∀ v ∈ triedVectors s.dir (isUpward s.ip), ¬ s.InBounds (coordAdd s.ip v) := by
    rw [triedVectors, forall_mem_triple]
    constructor
    · exact fun h => ⟨h 0 (by omega), h 1 (by omega), h 2 (by omega)⟩
    · rintro ⟨h0, h1, h2⟩ (_ | _ | _ | j) hj
      · exact h0
      · exact h1
      · exact h2
      · omega
  simp only [htries, (triedVectors_perm s.dir (isUpward s.ip)).mem_iff]

/-- `ip` is one of the isolated cells that R223 names. -/
def State.Isolated (s : State) : Prop :=
  s.gw = 1 ∧ (s.gh = 1 ∨ (s.ip.y = (s.gh : Int) - 1 ∧ (2 : Int) ∣ s.ip.y))

/-- In a grid one column wide the parity of a cell is that of its row; a downward cell then has a row above it. -/
theorem no_neighbour_iff_isolated {s : State} (hip : s.InBounds s.ip) :
    (∀ v ∈ neighbourVectors (isUpward s.ip), ¬ s.InBounds (coordAdd s.ip v)) ↔ s.Isolated := by
  obtain ⟨hxlo, hxhi, hylo, hyhi⟩ := hip
  cases hp : isUpward s.ip with
  | true =>
    have heven := (isUpward_iff s.ip).1 hp
    rw [neighbourVectors, forall_mem_triple]
    simp only [State.InBounds, coordAdd, State.Isolated]
    omega
  | false =>
    have hodd := (isUpward_eq_false_iff s.ip).1 hp
    rw [neighbourVectors, forall_mem_triple]
    simp only [State.InBounds, coordAdd, State.Isolated]
    omega

theorem no_try_iff_isolated {s : State} (hip : s.InBounds s.ip) : (∀ j, j < 3 → ¬ s.TryInBounds j) ↔ s.Isolated :=
  (no_try_iff_no_neighbour s).trans (no_neighbour_iff_isolated hip)

theorem normalStep_of_isolated {s : State} (hip : s.InBounds s.ip) (h : s.Isolated) : normalStep s = isolatedCell s := by
  rcases findStep_cases s 3 s.dir with ⟨j, hj, -, hin, -⟩ | ⟨-, e⟩
  · exact absurd hin ((no_try_iff_isolated hip).2 h j hj)
  · rw [normalStep, e]

theorem normalStep_of_not_isolated {s : State} (hip : s.InBounds s.ip) (h : ¬ s.Isolated) :
    ∃ d c, normalStep s = .cont { s with dir := d, ip := c } ∧ s.InBounds c ∧ c = stepFrom d s.ip := by
  rcases findStep_cases s 3 s.dir with ⟨j, -, -, hin, e⟩ | ⟨hnone, -⟩
  · exact ⟨_, _, by rw [normalStep, e], hin, rfl⟩
  · exact absurd ((no_try_iff_isolated hip).1 hnone) h

theorem isolatedCell_of_stay {s : State} (h : s.params.isolated = .stay) : isolatedCell s = .cont s := by
  rw [isolatedCell, h]

theorem isolatedCell_of_fault {s : State} (h : s.params.isolated = .fault) : isolatedCell s = .stop (s.raised .noMove) := by
  rw [isolatedCell, h, raise]

/-- Settles O20: the cells where no try is in bounds are the cells without a neighbour in the grid, and these are the cells R223 names. -/
theorem isolatedCellFollowsPolicy : Obligations.IsolatedCellFollowsPolicy := by
  intro s hj hs hip
  rw [move_of_nothing_pending hj hs]
  constructor
  · intro hisolated
    rw [normalStep_of_isolated hip hisolated]
    exact ⟨isolatedCell_of_stay, isolatedCell_of_fault⟩
  · exact normalStep_of_not_isolated hip

end Sys2Proof.Machine
end

section
/-! PROOF. The run start and the tick (42_tick_and_move.md R210 to R219, R224 to R226; 70_reset_and_hazards.md R473): what a step is in each
branch of the tick procedure, and the count that a completed tick adds. -/

namespace Sys2Proof.Machine

/-! ## The run start and the cap -/

theorem step_of_idle {s : State} (h : s.runState = .idle) : step s = .next (startRun s) := by
  rw [step, coreStep, h]

theorem step_of_running {s : State} (h : s.runState = .running) : step s = tickStep s := by
  rw [step, coreStep, h]

theorem startRun_of_empty {s : State} (h : s.gw = 0 ∨ s.gh = 0) : startRun s = { s with runState := .haltNormal } := by
  rw [startRun, if_pos h]

theorem startRun_of_cells {s : State} (hw : 0 < s.gw) (hh : 0 < s.gh) : startRun s = { s with runState := .running } := by
  rw [startRun, if_neg (by omega)]

theorem step_of_idle_empty {s : State} (hidle : s.runState = .idle) (hempty : s.gw = 0 ∨ s.gh = 0) :
    step s = .next { s with runState := .haltNormal } := by
  rw [step_of_idle hidle, startRun_of_empty hempty]

/-- Settles O8: the run start looks at the grid only, and the reset state of a launch is idle with its ports untouched. -/
theorem emptyGridHaltsBeforeAnyTick : Obligations.EmptyGridHaltsBeforeAnyTick := by
  refine ⟨fun s hidle hempty => ⟨step_of_idle_empty hidle hempty, rfl⟩, fun l hempty => ?_, fun s hidle hw hh => ?_⟩
  · exact ⟨_, step_of_idle_empty (s := State.resetWith l) rfl hempty, rfl, rfl, rfl, rfl, rfl, rfl⟩
  · rw [step_of_idle hidle, startRun_of_cells hw hh]

theorem tickStep_of_capped {s : State} (h : s.Capped) : tickStep s = .next { s with runState := .haltCapped } := if_pos h

/-- Settles O9: the cap is the first branch of the tick. -/
theorem capStopsTheRunFirst : Obligations.CapStopsTheRunFirst := by
  intro s hrun hcap hreached
  exact ⟨(step_of_running hrun).trans (tickStep_of_capped ⟨hcap, hreached⟩), rfl⟩

/-! ## The debug hook -/

theorem tickHook_of_level {s : State} (h : 2 ≤ s.debugLevel.toNat) : s.tickHook = s.strobe .everyTick := if_pos h

theorem tickHook_of_low_level {s : State} (h : s.debugLevel.toNat < 2) : s.tickHook = s := if_neg (by omega)

/-- Settles O15: the strobe appends its snapshot to the list that nothing reads. -/
theorem debugHookOnlyStrobes : Obligations.DebugHookOnlyStrobes :=
  fun _ => ⟨tickHook_of_level, tickHook_of_low_level⟩

@[simp] theorem State.tickHook_runState (s : State) : s.tickHook.runState = s.runState := by
  obtain ⟨_, e⟩ := tickHook_frame s
  rw [e]

@[simp] theorem State.tickHook_tick (s : State) : s.tickHook.tick = s.tick := by
  obtain ⟨_, e⟩ := tickHook_frame s
  rw [e]

@[simp] theorem State.tickHook_iter (s : State) : s.tickHook.iter = s.iter := by
  obtain ⟨_, e⟩ := tickHook_frame s
  rw [e]

@[simp] theorem State.tickHook_stack (s : State) : s.tickHook.stack = s.stack := by
  obtain ⟨_, e⟩ := tickHook_frame s
  rw [e]

@[simp] theorem State.tickHook_params (s : State) : s.tickHook.params = s.params := by
  obtain ⟨_, e⟩ := tickHook_frame s
  rw [e]

/-- The fetch comes after the hook and reads what stood there before it (R212, R213). -/
@[simp] theorem State.tickHook_fetch (s : State) : s.tickHook.fetch = s.gridRead s.ip := by
  obtain ⟨_, e⟩ := tickHook_frame s
  rw [e]; rfl

@[simp] theorem State.tickHook_fetchedInstr (s : State) :
    s.tickHook.fetchedInstr = decode s.params.opcodeMap (s.gridRead s.ip) := by
  rw [State.fetchedInstr, State.tickHook_params, State.tickHook_fetch]

/-! ## The end of a tick -/

theorem finishTick_of_running {u : State} (h : u.runState = .running) : finishTick (.next u) = moveAndCount u := if_pos h

theorem finishTick_of_stopped {u : State} (h : u.runState ≠ .running) : finishTick (.next u) = .next u := if_neg h

/-! ## A tick in string mode -/

theorem step_of_stringMode {s : State} (hrun : s.runState = .running) (hcap : ¬ s.Capped) (hmode : s.stringMode = true) :
    step s = finishTick (stringCell s.tickHook).outcome := by
  rw [step_of_running hrun, tickStep, if_neg hcap, if_pos hmode]

theorem stringCell_of_quote {s : State} (h : s.fetch = 0x22) : stringCell s = .cont { s with stringMode := false } := if_pos h

theorem stringCell_of_other {s : State} (h : s.fetch ≠ 0x22) : stringCell s = push s.fetch s := if_neg h

/-- Settles O14, by the cell and the room for it: the quote, a push that goes on, a push that faults. -/
theorem stringModePushesRawCells : Obligations.StringModePushesRawCells := by
  intro s hrun hcap hmode
  have hroom : s.tickHook.roomAfter 0 ↔ s.roomAfter 0 := by simp only [State.roomAfter, State.tickHook_params, State.tickHook_stack]
  rw [step_of_stringMode hrun hcap hmode]
  refine ⟨fun hquote => ?_, fun hother hspace => ?_, fun hother hfull => ?_⟩
  · rw [stringCell_of_quote (s.tickHook_fetch.trans hquote), Flow.outcome_cont, finishTick_of_running (by simpa using hrun)]
  · rw [stringCell_of_other (by simpa using hother), push_room _ (hroom.2 hspace), Flow.outcome_cont,
      finishTick_of_running (by simpa using hrun), State.pushed, State.tickHook_fetch, State.tickHook_stack]
  · rw [stringCell_of_other (by simpa using hother), push_full _ (mt hroom.1 hfull), Flow.outcome_stop,
      finishTick_of_stopped (by simp), State.raised]

/-! ## A tick that decodes its cell -/

theorem State.decodedStart_runState {s : State} (h : s.Decodes) : s.decodedStart.runState = .running :=
  have ⟨hrun, _, _⟩ := h
  s.tickHook_runState.trans hrun

/-- R210 outside string mode: the latched instruction, the latched count, and the state in which the executions start. -/
theorem step_of_decodes {s : State} (h : s.Decodes) :
    step s = finishTick (repeatExec (decode s.params.opcodeMap (s.gridRead s.ip)) s.iter s.decodedStart) := by
  obtain ⟨hrun, hcap, hmode⟩ := h
  rw [step_of_running hrun, tickStep, if_neg hcap, if_neg (by simp [hmode]), decodedCell,
    State.tickHook_fetchedInstr, State.tickHook_iter, State.decodedStart]

theorem repeatExec_of_running {i : Instr} {s t : State} (n : Nat) (e : exec i s = .next t) (hr : t.runState = .running) :
    repeatExec i (n + 1) s = repeatExec i n t := by
  rw [repeatExec, e]
  exact if_pos hr

theorem repeatExec_of_stopped {i : Instr} {s t : State} (n : Nat) (e : exec i s = .next t) (hr : t.runState ≠ .running) :
    repeatExec i (n + 1) s = .next t := by
  rw [repeatExec, e]
  exact if_neg hr

theorem repeatExec_of_fault {i : Instr} {s : State} {f : Fault} (n : Nat) (e : exec i s = .fault f) :
    repeatExec i (n + 1) s = .fault f := by
  rw [repeatExec, e]

/-- The first `n` executions of `i` from `u 0` go through the states `u` and none of them leaves RUNNING. -/
def RunsThrough (i : Instr) (u : Nat → State) (n : Nat) : Prop :=
  ∀ k, k < n → exec i (u k) = .next (u (k + 1)) ∧ (u (k + 1)).runState = .running

/-- R226: executions that stay in RUNNING hand over to the ones after them. -/
theorem RunsThrough.repeatExec_add {i : Instr} {u : Nat → State} {n : Nat} (h : RunsThrough i u n) (m : Nat) :
    repeatExec i (n + m) (u 0) = repeatExec i m (u n) := by
  induction n generalizing m with
  | zero => rw [Nat.zero_add]
  | succ n ih =>
    obtain ⟨hexec, hrun⟩ := h n n.lt_succ_self
    calc repeatExec i (n + 1 + m) (u 0)
        = repeatExec i (n + (m + 1)) (u 0) := by rw [Nat.add_right_comm, Nat.add_assoc]
      _ = repeatExec i (m + 1) (u n) := ih (fun k hk => h k (hk.trans n.lt_succ_self)) _
      _ = repeatExec i m (u (n + 1)) := repeatExec_of_running m hexec hrun

theorem RunsThrough.runState {i : Instr} {u : Nat → State} {n : Nat} (h : RunsThrough i u n) (h0 : (u 0).runState = .running) :
    (u n).runState = .running := by
  cases n with
  | zero => exact h0
  | succ n =>
    obtain ⟨-, hrun⟩ := h n n.lt_succ_self
    exact hrun

/-- Settles O11: all the executions hand over, so the repetition ends in the last state, which the tick moves and counts. -/
theorem iterateCountRepeatsLatchedOpcode : Obligations.IterateCountRepeatsLatchedOpcode := by
  intro s u hdecodes hstart (hthrough : RunsThrough _ u s.iter)
  have hrun : (u s.iter).runState = .running := hthrough.runState (hstart ▸ State.decodedStart_runState hdecodes)
  have hall : repeatExec (decode s.params.opcodeMap (s.gridRead s.ip)) s.iter (u 0) = .next (u s.iter) :=
    hthrough.repeatExec_add 0
  rw [step_of_decodes hdecodes, ← hstart, hall, finishTick_of_running hrun]

/-- Settles O12: the executions before the `j`-th hand over to it, and it ends the repetition and the tick. -/
theorem stoppedExecutionEndsTick : Obligations.StoppedExecutionEndsTick := by
  intro s v u j hdecodes hstart hj (hthrough : RunsThrough _ u j) hexec hstopped
  obtain ⟨m, hm⟩ : ∃ m, s.iter = j + (m + 1) := Nat.exists_eq_add_of_lt hj
  rw [step_of_decodes hdecodes, ← hstart, hm, hthrough.repeatExec_add, repeatExec_of_stopped m hexec hstopped,
    finishTick_of_stopped hstopped]

/-- Settles O10, by how the one execution ends: the core still runs, it has left RUNNING, or the model has stopped. -/
theorem stepRunsDecodedInstruction : Obligations.StepRunsDecodedInstruction := by
  intro s i hdecodes hcount hdecode _
  have hstep : step s = finishTick (repeatExec i 1 s.decodedStart) := by rw [step_of_decodes hdecodes, hdecode, hcount]
  rw [hstep]
  refine ⟨fun t hexec hrun => ?_, fun t hexec hstopped => ?_, fun f hexec => ?_⟩
  · rw [repeatExec_of_running 0 hexec hrun, repeatExec, finishTick_of_running hrun]
  · rw [repeatExec_of_stopped 0 hexec hstopped, finishTick_of_stopped hstopped]
  · rw [repeatExec_of_fault 0 hexec, finishTick]

/-- R411. -/
theorem exec_terminate (s : State) : exec .terminate s = .next { s with runState := .haltNormal } := rfl

/-- Settles O13: the byte 0x40 is TERMINATE under every map, and its first execution leaves RUNNING. -/
theorem terminateHaltsUnlessSkipped : Obligations.TerminateHaltsUnlessSkipped := by
  intro s hdecodes hcell
  have hdecode : decode s.params.opcodeMap (s.gridRead s.ip) = .terminate := by
    rw [hcell]
    exact decode_of_fixedByteOf (b := 0x40) _ rfl
  rw [step_of_decodes hdecodes, hdecode]
  constructor
  · intro hpos
    obtain ⟨n, hn⟩ := Nat.exists_eq_add_of_lt hpos
    rw [hn, repeatExec_of_stopped _ (exec_terminate _) (by simp), finishTick_of_stopped (by simp)]
  · intro hzero
    rw [hzero, repeatExec, finishTick_of_running (State.decodedStart_runState hdecodes)]

/-! ## The count of completed ticks -/

/-- R219, after a tick that began with the count `n`: still running and counted, or no longer running and not counted. -/
def CountedFrom (n : Nat) (t : State) : Prop :=
  (t.runState = .running ∧ t.tick = n + 1) ∨ (t.runState ≠ .running ∧ t.tick = n)

/-- A move that goes on writes neither the run state nor the count. -/
theorem move_cont_frame {s t : State} (h : move s = .cont t) : t.runState = s.runState ∧ t.tick = s.tick := by
  rcases move_cases s with ⟨-, e⟩ | ⟨-, -, -, e⟩ | ⟨-, -, e⟩ <;> rw [e] at h
  · cases h; exact ⟨rfl, rfl⟩
  · cases h; exact ⟨rfl, rfl⟩
  · rcases normalStep_cases { s with strafePending := false } with ⟨d, c, -, -, e⟩ | ⟨-, e⟩ | ⟨-, e⟩ <;> rw [e] at h <;> cases h
    · exact ⟨rfl, rfl⟩
    · exact ⟨rfl, rfl⟩

theorem moveAndCount_countedFrom {s t : State} (hrun : s.runState = .running) (h : moveAndCount s = .next t) :
    CountedFrom s.tick t := by
  rcases moveAndCount_cases s with ⟨u, hmove, e⟩ | ⟨u, -, hfault, e⟩
  · obtain ⟨hkept, htick⟩ := move_cont_frame hmove
    exact next_keeps (e.symm.trans h) (.inl ⟨hkept.trans hrun, congrArg (· + 1) htick⟩)
  · exact next_keeps (e.symm.trans h) (.inr (by simp [hfault]))

theorem finishTick_countedFrom {n : Nat} {x : Host.Outcome State Fault Refusal} {t : State}
    (hx : ∀ u, x = .next u → u.tick = n) (h : finishTick x = .next t) : CountedFrom n t := by
  obtain ⟨u, hu, ⟨hrun, hmove⟩ | ⟨hstopped, rfl⟩⟩ := finishTick_eq_next.1 h
  · exact hx u hu ▸ moveAndCount_countedFrom hrun hmove
  · exact .inr ⟨hstopped, hx t hu⟩

theorem stringCell_tick {s t : State} (h : (stringCell s).outcome = .next t) : t.tick = s.tick := by
  by_cases hquote : s.fetch = 0x22
  · rw [stringCell_of_quote hquote] at h
    exact next_keeps (P := fun u => u.tick = s.tick) h rfl
  · rw [stringCell_of_other hquote] at h
    exact congrArg Control.tick (push_yields_control (s := s) s.fetch rfl t h)

/-- R45: no execution counts. -/
theorem decodedCell_tick {s t : State} (hrun : s.runState = .running) (h : decodedCell s = .next t) : t.tick = s.tick :=
  repeatExec_induction (P := fun u => u.tick = s.tick) (fun _ _ hu _ he => (exec_controlFrame he).tick.trans hu)
    s.iter { s with iter := 1 } t rfl hrun h

/-- Settles O6, by the branch of the tick: the cap, and the two kinds of execution part, which leave the count to the end of the tick. -/
theorem tickCountsCompletedTicks : Obligations.TickCountsCompletedTicks := by
  intro s t hrun h
  rw [step_of_running hrun] at h
  rcases tickStep_cases s with ⟨-, e⟩ | ⟨-, -, e⟩ | ⟨-, -, e⟩
  · exact next_keeps (P := CountedFrom s.tick) (e.symm.trans h) (.inr ⟨by simp, rfl⟩)
  · exact finishTick_countedFrom (fun _ hu => (stringCell_tick hu).trans s.tickHook_tick) (e.symm.trans h)
  · exact finishTick_countedFrom (fun _ hu => (decodedCell_tick (s.tickHook_runState.trans hrun) hu).trans s.tickHook_tick)
      (e.symm.trans h)

end Sys2Proof.Machine
end

section
/-! PROOF. The control-flow opcodes and the cursor modes (43_control_flow.md R240 to R251; 46_ico_ops.md R338 to R340): what each mirror and
turn does to the compass angle, and the state that each execution answers. -/

namespace Sys2Proof.Machine

/-! ## Compass angles -/

/-- `f` reflects every direction across the axis at the given angle: a direction and its image lie symmetrically to it, modulo 360. -/
def ReflectsAcross (axis : Int) (f : Dir → Dir) : Prop := ∀ d, (compassAngle (f d) + compassAngle d - 2 * axis) % 360 = 0

theorem reflectSwNe_reflectsAcross : ReflectsAcross 60 reflectSwNe := by intro d; cases d <;> rfl
theorem reflectNwSe_reflectsAcross : ReflectsAcross 120 reflectNwSe := by intro d; cases d <;> rfl
theorem reflectWE_reflectsAcross : ReflectsAcross 0 reflectWE := by intro d; cases d <;> rfl
theorem reflectNS_reflectsAcross : ReflectsAcross 90 reflectNS := by intro d; cases d <;> rfl

theorem compassAngle_turnLeft (d : Dir) : (compassAngle (turnLeft d) - compassAngle d - 60) % 360 = 0 := by cases d <;> rfl
theorem compassAngle_turnRight (d : Dir) : (compassAngle (turnRight d) - compassAngle d + 60) % 360 = 0 := by cases d <;> rfl

/-! ## Mirrors and turns -/

/-- Settles O37, mirror by mirror: each writes the reflection across its own axis. -/
theorem mirrorsReflectAcrossTheirAxis : Obligations.MirrorsReflectAcrossTheirAxis := by
  intro s i axis h
  simp only [List.mem_cons, List.not_mem_nil, or_false, Prod.mk.injEq] at h
  rcases h with ⟨rfl, rfl⟩ | ⟨rfl, rfl⟩ | ⟨rfl, rfl⟩ | ⟨rfl, rfl⟩
  · exact ⟨_, rfl, reflectSwNe_reflectsAcross s.dir⟩
  · exact ⟨_, rfl, reflectNwSe_reflectsAcross s.dir⟩
  · exact ⟨_, rfl, reflectWE_reflectsAcross s.dir⟩
  · exact ⟨_, rfl, reflectNS_reflectsAcross s.dir⟩

theorem exec_turnC (s : State) :
    exec .turnC s =
      .next { s with stack := s.stack.tail, dir := if s.operand 0 ≤ 0 then turnLeft s.dir else turnRight s.dir } := by
  rw [← top_eq_operand]
  rfl

/-- Settles O38, TURN_C by the sign of its operand. -/
theorem turnsRotateBySixtyDegrees : Obligations.TurnsRotateBySixtyDegrees := by
  intro s
  refine ⟨⟨_, rfl, compassAngle_turnLeft s.dir⟩, ⟨_, rfl, compassAngle_turnRight s.dir⟩, _, exec_turnC s, ?_, ?_⟩
  · intro hleft
    rw [if_pos hleft]
    exact compassAngle_turnLeft s.dir
  · intro hright
    rw [if_neg hright.not_ge]
    exact compassAngle_turnRight s.dir

/-! ## The strafe flag and the count -/

theorem exec_skipZ_of_zero {s : State} (h : s.operand 0 = 0) :
    exec .skipZ s = .next { s with stack := s.stack.tail, iter := 0 } :=
  congrArg Host.Outcome.next (if_pos (by rwa [top_eq_operand]))

theorem exec_skipZ_of_nonzero {s : State} (h : s.operand 0 ≠ 0) : exec .skipZ s = .next { s with stack := s.stack.tail } :=
  congrArg Host.Outcome.next (if_neg (by rwa [top_eq_operand]))

/-- R247's clamp is the truncation of an integer to a natural number. -/
theorem exec_iterate (s : State) : exec .iterate s = .next { s with stack := s.stack.tail, iter := (s.operand 0).toNat } := by
  have hclamp : (if s.top < 0 then 0 else s.top.toNat) = (s.operand 0).toNat := by
    rw [top_eq_operand]
    split_ifs <;> omega
  rw [← hclamp]
  rfl

/-- Settles O39, from what SKIP_Z and ITERATE answer; STRAFE and SKIP read no operand. -/
theorem strafeAndCountOpcodes : Obligations.StrafeAndCountOpcodes := fun s =>
  ⟨rfl, rfl, exec_skipZ_of_zero, exec_skipZ_of_nonzero, (s.operand 0).toNat, exec_iterate s, by omega⟩

/-! ## Popped coordinates -/

theorem popped_popped (s : State) : s.popped.popped = { s with stack := s.stack.drop 2 } := by
  simp only [State.popped, ← List.drop_one, List.drop_drop]

/-- The column is the second word popped (R248). -/
theorem popCoord_x_congruent (s : State) : (s.gw : Int) ∣ s.popCoord.x - s.operand 1 := by
  rw [← popped_operand s 0, ← top_eq_operand]
  exact Int.dvd_fmod_sub_self

/-- The row is the first word popped (R248). -/
theorem popCoord_y_congruent (s : State) : (s.gh : Int) ∣ s.popCoord.y - s.operand 0 := by
  rw [← top_eq_operand]
  exact Int.dvd_fmod_sub_self

theorem withCoord_outcome (f : Coord → State → State) {s : State} (hw : 0 < s.gw) (hh : 0 < s.gh) :
    (withCoord f s).outcome = .next (f s.popCoord { s with stack := s.stack.drop 2 }) := by
  rw [withCoord_grid f hw hh, popped_popped, Flow.outcome_cont]

/-- Settles O40: the three opcodes write one and the same popped coordinate. -/
theorem poppedCoordinatesWrapIntoTheGrid : Obligations.PoppedCoordinatesWrapIntoTheGrid := fun s =>
  ⟨rfl, fun hw hh => ⟨s.popCoord, popCoord_inBounds s hw hh, popCoord_x_congruent s, popCoord_y_congruent s,
    withCoord_outcome State.setJump hw hh, withCoord_outcome (State.setCursor .get) hw hh,
    withCoord_outcome (State.setCursor .set) hw hh⟩⟩

end Sys2Proof.Machine
end

section
/-! PROOF. The arithmetic and logic opcodes (44_arithmetic.md R270 to R285) and the opcodes that push a value they do not pop (R271;
45_stack.md R301, R303; 46_ico_ops.md R335, R337): the value each pushes where there is room for it. -/

namespace Sys2Proof.Machine

/-! ## Reduced results -/

/-- An instruction that reduces its one-operand result pushes the word congruent to the exact result (R270). -/
theorem unary_pushes_word {s : State} (hn : 0 < s.params.wordBits) (hroom : s.roomAfter 1) (f : Int → Int) :
    ∃ w, (unary (fun v => s.wrapW (f v)) s).outcome = .next { s with stack := w :: s.stack.tail } ∧
      IsWordOf s.params.wordBits (f (s.operand 0)) w :=
  ⟨_, unary_room _ hroom, isWordOf_wrap hn _⟩

/-- An instruction that reduces its two-operand result pushes the word congruent to the exact result (R270). -/
theorem binary_pushes_word {s : State} (hn : 0 < s.params.wordBits) (hroom : s.roomAfter 2) (f : Int → Int → Int) :
    ∃ w, (binary (fun b a => s.wrapW (f b a)) s).outcome = .next { s with stack := w :: s.stack.drop 2 } ∧
      IsWordOf s.params.wordBits (f (s.operand 1) (s.operand 0)) w :=
  ⟨_, binary_room _ hroom, isWordOf_wrap hn _⟩

/-- Settles O27: each is one function of the two operands, reduced. -/
theorem addSubMulPushTheWrappedResult : Obligations.AddSubMulPushTheWrappedResult := fun _ hn hroom =>
  ⟨binary_pushes_word hn hroom (· + ·), binary_pushes_word hn hroom (· - ·), binary_pushes_word hn hroom (· * ·)⟩

/-- Settles O28: each is one function of the top, reduced. -/
theorem incDecNegPushTheWrappedResult : Obligations.IncDecNegPushTheWrappedResult := fun _ hn hroom =>
  ⟨unary_pushes_word hn hroom (· + 1), unary_pushes_word hn hroom (· - 1), unary_pushes_word hn hroom (-·)⟩

/-! ## DIGIT -/

theorem exec_digit {s : State} (d : Nat) (hroom : s.roomAfter 1) :
    exec (.digit d) s = .next { s with
      stack := (if s.operand 0 < 0 then s.wrapW (s.operand 0 * 10 - d) else s.wrapW (s.operand 0 * 10 + d)) :: s.stack.tail } :=
  unary_room _ hroom

/-- Settles O29, by the sign of the accumulator. -/
theorem digitExtendsTheAccumulator : Obligations.DigitExtendsTheAccumulator := by
  intro s d hn hroom
  refine ⟨_, exec_digit d hroom, fun hnonneg => ?_, fun hneg => ?_⟩
  · rw [if_neg hnonneg.not_gt, mul_comm]
    exact isWordOf_wrap hn _
  · have hmagnitude : s.operand 0 * 10 - d = -(10 * |s.operand 0| + d) := by rw [abs_of_neg hneg]; ring
    rw [if_pos hneg, hmagnitude]
    exact isWordOf_wrap hn _

/-! ## DIV and MOD -/

/-- The remainder of R13 lies between 0 and the divisor, the divisor excluded. -/
theorem fmod_bounds (b : Int) {a : Int} (h : a ≠ 0) : (0 ≤ fmod b a ∧ fmod b a < a) ∨ (a < fmod b a ∧ fmod b a ≤ 0) := by
  rcases lt_or_gt_of_ne h with hneg | hpos
  · have hflip : fmod (-b) (-a) = -fmod b a := Int.neg_fmod_neg b a
    have hnonneg : 0 ≤ fmod (-b) (-a) := Int.fmod_nonneg_of_pos _ (by omega)
    have hlt : fmod (-b) (-a) < -a := Int.fmod_lt_of_pos _ (by omega)
    exact .inr (by omega)
  · exact .inl ⟨Int.fmod_nonneg_of_pos b hpos, Int.fmod_lt_of_pos b hpos⟩

theorem abs_fmod_lt (b : Int) {a : Int} (h : a ≠ 0) : |fmod b a| < |a| := by
  rcases fmod_bounds b h with ⟨hlo, hhi⟩ | ⟨hlo, hhi⟩
  · rwa [abs_of_nonneg hlo, abs_of_pos (hlo.trans_lt hhi)]
  · rw [abs_of_nonpos hhi, abs_of_neg (hlo.trans_le hhi)]
    exact neg_lt_neg hlo

theorem fmod_eq_zero_or_sign (b : Int) {a : Int} (h : a ≠ 0) : fmod b a = 0 ∨ (0 < fmod b a ↔ 0 < a) := by
  have := fmod_bounds b h
  omega

theorem dividing_room {s : State} (f : Int → Int → Int) (hroom : s.roomAfter 2) (hdivisor : s.operand 0 ≠ 0) :
    (dividing f s).outcome = .next { s with stack := f (s.operand 1) (s.operand 0) :: s.stack.drop 2 } := by
  rw [dividing_nonzero f hdivisor, binary_room f hroom]

/-- Settles O30: `q` and `r` are the floor quotient and remainder of R13. -/
theorem divModPushFloorQuotientAndRemainder : Obligations.DivModPushFloorQuotientAndRemainder := fun s hn hroom hdivisor =>
  ⟨fdiv (s.operand 1) (s.operand 0), fmod (s.operand 1) (s.operand 0), _,
    (Int.mul_fdiv_add_fmod _ _).symm, abs_fmod_lt _ hdivisor, fmod_eq_zero_or_sign _ hdivisor, isWordOf_wrap hn _,
    dividing_room _ hroom hdivisor, dividing_room _ hroom hdivisor⟩

/-! ## The bitwise opcodes -/

/-- The bit vector of an integer holds its low bits in two's complement, for either sign. -/
theorem getLsbD_ofInt {n k : Nat} (hk : k < n) (z : Int) : (BitVec.ofInt n z).getLsbD k = z.testBit k := by
  cases z with
  | ofNat m =>
    rw [Int.ofNat_eq_natCast, BitVec.ofInt_natCast, BitVec.getLsbD_ofNat, decide_eq_true hk, Bool.true_and]
    rfl
  | negSucc m =>
    rw [BitVec.ofInt_negSucc_eq_not_ofNat, BitVec.getLsbD_not, BitVec.getLsbD_ofNat, decide_eq_true hk, Bool.true_and, Bool.true_and]
    rfl

theorem testBit_toInt {n k : Nat} (hk : k < n) (x : BitVec n) : x.toInt.testBit k = x.getLsbD k := by
  rw [← getLsbD_ofInt hk, BitVec.ofInt_toInt]

theorem testBit_wordAnd {n k : Nat} (hk : k < n) (b a : Int) : (wordAnd n b a).testBit k = (b.testBit k && a.testBit k) := by
  rw [wordAnd, testBit_toInt hk, BitVec.getLsbD_and, getLsbD_ofInt hk, getLsbD_ofInt hk]

theorem testBit_wordOr {n k : Nat} (hk : k < n) (b a : Int) : (wordOr n b a).testBit k = (b.testBit k || a.testBit k) := by
  rw [wordOr, testBit_toInt hk, BitVec.getLsbD_or, getLsbD_ofInt hk, getLsbD_ofInt hk]

theorem testBit_wordXor {n k : Nat} (hk : k < n) (b a : Int) : (wordXor n b a).testBit k = (b.testBit k ^^ a.testBit k) := by
  rw [wordXor, testBit_toInt hk, BitVec.getLsbD_xor, getLsbD_ofInt hk, getLsbD_ofInt hk]

/-- R285: the complement of a two's-complement word is its negation minus 1. -/
theorem wordNot_eq_wrap (n : Nat) (v : Int) : wordNot n v = wrap n (-v - 1) := by
  have hnot : ~~~ BitVec.ofInt n v = BitVec.ofInt n (-v - 1) := by
    rw [sub_eq_add_neg, BitVec.ofInt_add, BitVec.ofInt_neg, BitVec.ofInt_neg, BitVec.ofInt_ofNat, BitVec.not_eq_neg_add,
      BitVec.sub_eq_add_neg]
  rw [wordNot, hnot, BitVec.toInt_ofInt, wrap]

/-- Settles O32: the three words bit by bit, and the complement as a reduced result. -/
theorem bitwiseOpcodesActOnEveryBit : Obligations.BitwiseOpcodesActOnEveryBit := fun _ hn =>
  ⟨fun hroom =>
    ⟨⟨_, binary_room _ hroom, inRange_toInt _, fun _ hk => testBit_wordAnd hk _ _⟩,
      ⟨_, binary_room _ hroom, inRange_toInt _, fun _ hk => testBit_wordOr hk _ _⟩,
      ⟨_, binary_room _ hroom, inRange_toInt _, fun _ hk => testBit_wordXor hk _ _⟩⟩,
    fun hroom => ⟨_, unary_room _ hroom, (isWordOf_iff_eq_wrap hn _ _).2 (wordNot_eq_wrap _ _)⟩⟩

/-! ## The opcodes that push without popping -/

theorem push_outcome_room {s : State} (v : Int) (h : s.roomAfter 0) :
    (push v s).outcome = .next { s with stack := v :: s.stack } := by
  rw [push_room v h]
  rfl

/-- R301: the 0 that DUP pushes on an empty stack is what a pop of it would return. -/
theorem exec_dup (s : State) : exec .dup s = (push (s.operand 0) s).outcome := by
  have hread : (if s.stack.length = 0 then push 0 s else push s.top s) = push (s.operand 0) s := by
    split_ifs with hempty
    · rw [← top_eq_operand, State.top, List.eq_nil_of_length_eq_zero hempty, List.headD_nil]
    · rw [top_eq_operand]
  rw [← hread]
  rfl

theorem wrap_of_inRange {n : Nat} (hn : 0 < n) {v : Int} (h : InRange n v) : wrap n v = v :=
  ((isWordOf_iff_eq_wrap hn v v).1 ⟨h, by simp⟩).symm

/-- R335: a face number is at most 20, so its reduction changes nothing. -/
theorem wrapW_activeFace {s : State} (hn : 9 ≤ s.params.wordBits) : s.wrapW s.activeFace = (s.idx[0].val : Int) + 1 := by
  have hface : (s.activeFace : Int) = (s.idx[0].val : Int) + 1 := Nat.cast_succ _
  have hbound := s.idx[0].isLt
  rw [State.wrapW, hface]
  exact wrap_of_inRange (by omega) (inRange_small hn (by omega) (by omega))

theorem exec_pushFace {s : State} (hn : 9 ≤ s.params.wordBits) : exec .pushFace s = (push ((s.idx[0].val : Int) + 1) s).outcome := by
  rw [← wrapW_activeFace hn]
  rfl

/-- Settles O33: NOT is a function of the top, the others are a push of their value. -/
theorem pushingOpcodesPushTheirValue : Obligations.PushingOpcodesPushTheirValue := fun s hn =>
  ⟨unary_room _, fun hroom =>
    ⟨push_outcome_room 0 hroom, (exec_dup s).trans (push_outcome_room _ hroom), push_outcome_room s.icoLoad hroom,
      (exec_pushFace hn).trans (push_outcome_room _ hroom), s.wrapW s.stack.length, push_outcome_room _ hroom,
      isWordOf_wrap (by omega) _⟩⟩

end Sys2Proof.Machine
end

section
/-! PROOF. The stack opcodes (45_stack.md R300 to R306). Read from the bottom, ROTL is a cyclic rotation by one place, so a depth of
executions goes round once, and ROTR undoes it. -/

namespace Sys2Proof.Machine

/-! ## The two rotations -/

/-- R305, with the bottom entry written apart. -/
theorem rotateLeft_append_singleton (l : List Int) (bottom : Int) : rotateLeft (l ++ [bottom]) = bottom :: l := by
  simp [rotateLeft]

/-- R306 undoes R305, on the empty stack too. -/
theorem rotateRight_rotateLeft (l : List Int) : rotateRight (rotateLeft l) = l := by
  rcases l.eq_nil_or_concat with rfl | ⟨rest, bottom, rfl⟩
  · rfl
  · rw [List.concat_eq_append, rotateLeft_append_singleton, rotateRight]

/-- Bottom first, R305 is the library's cyclic rotation by one place. -/
theorem reverse_rotateLeft (l : List Int) : (rotateLeft l).reverse = l.reverse.rotate 1 := by
  rcases l.eq_nil_or_concat with rfl | ⟨rest, bottom, rfl⟩
  · rfl
  · rw [List.concat_eq_append, rotateLeft_append_singleton, List.reverse_cons, List.reverse_append, List.reverse_singleton,
      List.singleton_append, List.rotate_cons_succ, List.rotate_zero]

theorem reverse_rotateLeft_iterate (n : Nat) (l : List Int) : (rotateLeft^[n] l).reverse = l.reverse.rotate n := by
  induction n with
  | zero => rw [Function.iterate_zero_apply, List.rotate_zero]
  | succ n ih => rw [Function.iterate_succ_apply', reverse_rotateLeft, ih, List.rotate_rotate]

/-- R305: as many rotations as the stack has entries go round once. -/
theorem rotateLeft_iterate_length (l : List Int) : rotateLeft^[l.length] l = l := by
  apply List.reverse_injective
  rw [reverse_rotateLeft_iterate, ← List.length_reverse, List.rotate_length]

/-! ## What the opcodes answer -/

theorem exec_discard (s : State) : exec .discard s = .next { s with stack := s.stack.tail } := rfl
theorem exec_reverse (s : State) : exec .reverse s = .next { s with stack := s.stack.reverse } := rfl
theorem exec_rotl (s : State) : exec .rotl s = .next { s with stack := rotateLeft s.stack } := rfl
theorem exec_rotr (s : State) : exec .rotr s = .next { s with stack := rotateRight s.stack } := rfl

theorem exec_rotl_of_bottom {s : State} {bottom : Int} {rest : List Int} (h : s.stack.reverse = bottom :: rest) :
    exec .rotl s = .next { s with stack := bottom :: rest.reverse } := by
  rw [exec_rotl, List.reverse_eq_cons_iff.1 h, rotateLeft_append_singleton]

theorem exec_rotr_of_top {s : State} {top : Int} {rest : List Int} (h : s.stack.reverse = rest ++ [top]) :
    exec .rotr s = .next { s with stack := rest.reverse ++ [top] } := by
  have hstack : s.stack = top :: rest.reverse := by simpa using congrArg List.reverse h
  rw [exec_rotr, hstack, rotateRight]

/-- R302: both pushes find room, the first after the two pops and the second one word above it. -/
theorem exec_swap_of_room {s : State} (hfirst : s.roomAfter 2) (hsecond : s.params.stackMax ≠ some (s.stack.length - 2 + 1)) :
    exec .swap s = .next { s with stack := s.operand 1 :: s.operand 0 :: s.stack.drop 2 } := by
  have hpushes : exec .swap s = ((push s.top s.popped.popped).bind (push s.popped.top)).outcome := rfl
  have hroom : s.popped.popped.roomAfter 0 := (popped_roomAfter _ 0).2 ((popped_roomAfter s 1).2 hfirst)
  have hroom' : (s.popped.popped.pushed s.top).roomAfter 0 := by
    rw [popped_popped]
    simpa [State.roomAfter] using hsecond
  rw [hpushes, push_room _ hroom, Flow.bind_cont, push_outcome_room _ hroom', popped_popped, top_eq_operand, top_eq_operand,
    popped_operand]
  rfl

/-- Settles O35: ROTL and ROTR by the entry they move, SWAP by its two pushes. -/
theorem stackOpcodesRearrange : Obligations.StackOpcodesRearrange := by
  intro s
  refine ⟨exec_discard s, exec_reverse s, fun hempty => ?_, fun bottom rest h => ⟨_, exec_rotl_of_bottom h, ?_⟩,
    fun top rest h => ⟨_, exec_rotr_of_top h, ?_⟩, exec_swap_of_room⟩
  · have hsame : { s with stack := [] } = s := by rw [← hempty]
    rw [exec_rotl, exec_rotr, hempty]
    exact ⟨congrArg Host.Outcome.next hsame, congrArg Host.Outcome.next hsame⟩
  · rw [List.reverse_cons, List.reverse_reverse]
  · rw [List.reverse_append, List.reverse_reverse, List.reverse_singleton, List.singleton_append]

/-! ## Sequences that restore the state -/

theorem exec_discard_pushed (s : State) (v : Int) : exec .discard { s with stack := v :: s.stack } = .next s := rfl

theorem exec_rotr_rotateLeft (s : State) : exec .rotr { s with stack := rotateLeft s.stack } = .next s := by
  rw [exec_rotr, rotateRight_rotateLeft]

/-- R226 for ROTL, which never leaves RUNNING. -/
theorem repeatExec_rotl (n : Nat) {s : State} (hrun : s.runState = .running) :
    repeatExec .rotl n s = .next { s with stack := rotateLeft^[n] s.stack } := by
  induction n generalizing s with
  | zero => rfl
  | succ n ih =>
    rw [repeatExec_of_running n (exec_rotl s) hrun, Function.iterate_succ_apply]
    exact ih hrun

/-- Settles O36: DISCARD drops what DUP pushed, and the rotations restore the stack. -/
theorem stackOpcodesUndoEachOther : Obligations.StackOpcodesUndoEachOther := by
  intro s
  refine ⟨fun hroom => ⟨_, (exec_dup s).trans (push_outcome_room _ hroom), exec_discard_pushed s _⟩,
    ⟨_, exec_rotl s, exec_rotr_rotateLeft s⟩, fun hrun => ?_⟩
  rw [repeatExec_rotl _ hrun, rotateLeft_iterate_length]

end Sys2Proof.Machine
end

section
/-! PROOF. The icosahedron's opcodes (46_ico_ops.md R320 to R342): permutations of `idx`, a store or a cursor step, and then one bridge. A
sound state gives what the rotations and the bridge ask for, and so does every state between them. -/

namespace Sys2Proof.Machine

/-! ## Where the rotations and the bridge go on -/

/-- What a rotation asks of the tables and of `idx` (60_exceptions.md R435), and the bridge of the grid and the cursor (41_ico_engine.md
R189), to go on. -/
structure IcoReady (s : State) : Prop where
  tables : s.params.rotTable.ok = true
  bijection : s.idx.toList.Nodup
  gridSorted : memSorted s.grid = true
  cursor : s.cmode ≠ .none → s.InBounds s.icoPos

theorem Inv.icoReady {s : State} (h : Inv s) : IcoReady s :=
  have ⟨hsorted, _, _⟩ := Memory.wf_iff.1 h.gridForm
  ⟨Params.rotTable_of_ok h.params, h.idxBijection, hsorted, h.cursor⟩

theorem permutedBy_permute (p : PermTable) (idx : Vector (Fin 20) 20) : PermutedBy p idx (permute p idx) :=
  permute_get p idx

namespace IcoReady

variable {s : State}

theorem popped (h : IcoReady s) : IcoReady s.popped := { h with }

theorem icoStore (h : IcoReady s) (v : Int) : IcoReady (s.icoStore v) := { h with }

theorem setIcoPos (h : IcoReady s) {c : Coord} (hc : s.InBounds c) : IcoReady (s.setIcoPos c) :=
  { h with cursor := fun _ => hc }

theorem permuted (h : IcoReady s) (r : Rotation) : IcoReady (s.permuted (s.table r)) :=
  { h with bijection := permute_nodup (RotTable.ok_nodup h.tables _) h.bijection }

theorem randNext (h : IcoReady s) : IcoReady s.randNext := by
  unfold State.randNext
  split <;> exact { h with }

theorem bridge_next (h : IcoReady s) : ∃ t, Bridged s t ∧ (bridge s).outcome = .next t := by
  obtain ⟨t, he, hb⟩ := bridge_bridged h.gridSorted h.cursor
  exact ⟨t, hb, congrArg Flow.outcome he⟩

theorem rotate_eq (h : IcoReady s) (r : Rotation) : rotate r s = .cont (s.permuted (s.table r)) :=
  rotate_ok r h.tables h.bijection

/-- R320, with the state between the permutation and the bridge. -/
theorem rot_next (h : IcoReady s) (r : Rotation) :
    ∃ u t : State, u = { s with idx := u.idx } ∧ PermutedBy s.params.rotTable[rotationIndex r] s.idx u.idx ∧
      Bridged u t ∧ (rot r s).outcome = .next t := by
  obtain ⟨t, hb, ht⟩ := (h.permuted r).bridge_next
  refine ⟨s.permuted (s.table r), t, rfl, permutedBy_permute _ _, hb, ?_⟩
  rw [rot, h.rotate_eq r, Flow.bind_cont, ht]

end IcoReady

/-! ## One rotation -/

/-- Settles O41: a named rotation is `rot` of its table. -/
theorem namedRotationsPermuteThenBridge : Obligations.NamedRotationsPermuteThenBridge := by
  intro s i r hinv hr
  rw [exec_of_namedRotation s hr]
  exact hinv.icoReady.rot_next r

theorem exec_rotCond (s : State) : exec .rotCond s = (rot (condRotation (s.operand 0)) s.popped).outcome := by
  rw [← top_eq_operand]
  rfl

/-- R333, sign by sign. -/
theorem condRotation_eq {v : Int} {r : Rotation}
    (h : (v < 0 ∧ r = .edgeNw) ∨ (v = 0 ∧ r = .edgeS) ∨ (0 < v ∧ r = .edgeNe)) : condRotation v = r := by
  rcases h with ⟨hneg, rfl⟩ | ⟨hzero, rfl⟩ | ⟨hpos, rfl⟩
  · exact if_pos hneg
  · rw [condRotation, if_neg (by omega), if_pos hzero]
  · rw [condRotation, if_neg (by omega), if_neg (by omega)]

/-- Settles O42: the rotation runs on the popped state. -/
theorem conditionalRotationFollowsTheSign : Obligations.ConditionalRotationFollowsTheSign := by
  intro s r hinv hsign
  rw [exec_rotCond, condRotation_eq hsign]
  exact hinv.icoReady.popped.rot_next r

/-! ## Draws (60_exceptions.md R457) -/

theorem randItem_lt {k : Nat} (hk : 0 < k) (s : State) : s.randItem k < k := by
  unfold State.randItem
  split <;> exact Nat.mod_lt _ hk

theorem randItem_of_draw {s : State} {a : Nat} (k : Nat) (h : s.draws[0]? = some a) : s.randItem k = a % k := by
  rw [← List.head?_eq_getElem?] at h
  obtain ⟨rest, hdraws⟩ := List.head?_eq_some_iff.1 h
  rw [State.randItem, hdraws]

/-- A draw writes the list of draws and the counter of the free ones. -/
theorem randNext_eq (s : State) : s.randNext = { s with draws := s.draws.tail, freeDraws := s.randNext.freeDraws } := by
  rcases hdraws : s.draws with _ | ⟨d, rest⟩ <;> simp [State.randNext, hdraws]

/-- A listed draw is no free one. -/
theorem randNext_freeDraws_of_draw {s : State} (h : 0 < s.draws.length) : s.randNext.freeDraws = s.freeDraws := by
  obtain ⟨a, rest, hdraws⟩ := List.exists_cons_of_length_pos h
  rw [State.randNext, hdraws]

/-- R334, draw by draw. -/
theorem randRotation_cases {k : Nat} (h : k < 3) :
    (k = 0 ∧ randRotation k = .edgeNw) ∨ (k = 1 ∧ randRotation k = .edgeNe) ∨ (k = 2 ∧ randRotation k = .edgeS) := by
  revert k
  decide

/-- Settles O43: the rotation runs on the state that the draw leaves. -/
theorem randomRotationUsesOneDraw : Obligations.RandomRotationUsesOneDraw := by
  intro s hinv
  obtain ⟨u, t, hu, hperm, hb, ht⟩ := hinv.icoReady.randNext.rot_next (randRotation (s.randItem 3))
  refine ⟨s.randItem 3, s.randNext.freeDraws, _, u, t, fun d rest hdraws => ⟨randItem_of_draw 3 ?_, randNext_freeDraws_of_draw ?_⟩,
    randRotation_cases (randItem_lt (by omega) s), ?_, by simpa using hperm, hb, ht⟩
  · simp [hdraws]
  · simp [hdraws]
  · rw [randNext_eq] at hu
    exact hu

/-! ## ROLL -/

/-- One part of ROLL: a draw below `n` and as many rotations (R332). -/
def State.rolled (n : Nat) (r : Rotation) (s : State) : State :=
  { s.randNext with idx := (permute (s.table r))^[s.randItem n] s.idx }

@[simp] theorem State.rolled_draws (n : Nat) (r : Rotation) (s : State) : (s.rolled n r).draws = s.draws.tail := s.randNext_draws

@[simp] theorem State.rolled_idx (n : Nat) (r : Rotation) (s : State) :
    (s.rolled n r).idx = (permute (s.table r))^[s.randItem n] s.idx := rfl

@[simp] theorem State.rolled_table (n : Nat) (r q : Rotation) (s : State) : (s.rolled n r).table q = s.table q :=
  congrArg (fun p : Params => p.rotTable[rotationIndex q]) s.randNext_params

theorem rolled_eq (n : Nat) (r : Rotation) (s : State) :
    s.rolled n r =
      { s with draws := s.draws.tail, freeDraws := (s.rolled n r).freeDraws, idx := (s.rolled n r).idx } :=
  congrArg (fun u : State => { u with idx := (s.rolled n r).idx }) (randNext_eq s)

theorem rolled_freeDraws_of_draw {s : State} (n : Nat) (r : Rotation) (h : 0 < s.draws.length) :
    (s.rolled n r).freeDraws = s.freeDraws :=
  randNext_freeDraws_of_draw h

/-- The iterated table is that of the state before the draw, which a draw does not write. -/
theorem IcoReady.rollPart_eq {s : State} (h : IcoReady s) (n : Nat) (r : Rotation) :
    rollPart n r s = .cont (s.rolled n r) ∧ IcoReady (s.rolled n r) := by
  obtain ⟨heq, hnodup⟩ := rotateTimes_ok r (s.randItem n) h.randNext.tables h.randNext.bijection
  have hsame : { s.randNext with idx := (permute (s.randNext.table r))^[s.randItem n] s.randNext.idx } = s.rolled n r := by
    simp only [State.rolled, State.table, State.randNext_params, State.randNext_idx]
  rw [hsame] at heq
  exact ⟨heq, { h.randNext with bijection := by simpa [State.table] using hnodup }⟩

/-- The state that ROLL bridges from: its four parts in order. -/
def State.rolledFour (s : State) : State :=
  (((s.rolled 5 .cornerN).rolled 3 .face).rolled 2 .edgeNwN).rolled 2 .edgeNeSe

theorem IcoReady.exec_roll {s : State} (h : IcoReady s) :
    IcoReady s.rolledFour ∧ exec .roll s = (bridge s.rolledFour).outcome := by
  obtain ⟨heq₁, h₁⟩ := h.rollPart_eq 5 .cornerN
  obtain ⟨heq₂, h₂⟩ := h₁.rollPart_eq 3 .face
  obtain ⟨heq₃, h₃⟩ := h₂.rollPart_eq 2 .edgeNwN
  obtain ⟨heq₄, h₄⟩ := h₃.rollPart_eq 2 .edgeNeSe
  refine ⟨h₄, ?_⟩
  have hexec : exec .roll s = execRoll s := rfl
  rw [hexec, execRoll, heq₁, Flow.bind_cont, heq₂, Flow.bind_cont, heq₃, Flow.bind_cont, heq₄, Flow.bind_cont]
  rfl

/-- `u` comes from `s` by `k` parts of ROLL: they write the draws, the counter of the free ones and `idx`. -/
structure RolledFrom (k : Nat) (s u : State) : Prop where
  frame : u = { s with draws := s.draws.drop k, freeDraws := u.freeDraws, idx := u.idx }
  listed : k ≤ s.draws.length → u.freeDraws = s.freeDraws

theorem RolledFrom.refl (s : State) : RolledFrom 0 s s := ⟨rfl, fun _ => rfl⟩

theorem RolledFrom.rolled {k : Nat} {s u : State} (h : RolledFrom k s u) (n : Nat) (r : Rotation) :
    RolledFrom (k + 1) s (u.rolled n r) := by
  have hdraws : u.draws = s.draws.drop k := congrArg State.draws h.frame
  constructor
  · calc u.rolled n r
        = { u with draws := u.draws.tail, freeDraws := (u.rolled n r).freeDraws, idx := (u.rolled n r).idx } := rolled_eq n r u
      _ = { s with draws := s.draws.drop (k + 1), freeDraws := (u.rolled n r).freeDraws, idx := (u.rolled n r).idx } := by
        rw [hdraws, List.tail_drop]
        exact congrArg (fun v : State =>
          { v with draws := s.draws.drop (k + 1), freeDraws := (u.rolled n r).freeDraws, idx := (u.rolled n r).idx }) h.frame
  · intro hlen
    have hdraw : 0 < u.draws.length := by
      rw [hdraws, List.length_drop]
      omega
    rw [rolled_freeDraws_of_draw n r hdraw, h.listed (by omega)]

theorem rolledFour_rolledFrom (s : State) : RolledFrom 4 s s.rolledFour :=
  ((((RolledFrom.refl s).rolled 5 .cornerN).rolled 3 .face).rolled 2 .edgeNwN).rolled 2 .edgeNeSe

/-- R332's order, the first part's rotations innermost. -/
theorem rolledFour_idx (s : State) :
    s.rolledFour.idx =
      (permute (s.table .edgeNeSe))^[(((s.rolled 5 .cornerN).rolled 3 .face).rolled 2 .edgeNwN).randItem 2]
        ((permute (s.table .edgeNwN))^[((s.rolled 5 .cornerN).rolled 3 .face).randItem 2]
          ((permute (s.table .face))^[(s.rolled 5 .cornerN).randItem 3]
            ((permute (s.table .cornerN))^[s.randItem 5] s.idx))) := by
  simp only [State.rolledFour, State.rolled_idx, State.rolled_table]

/-- Settles O44: each part's draw is the head of what the parts before it left. -/
theorem rollAppliesItsFourDraws : Obligations.RollAppliesItsFourDraws := by
  intro s hinv
  obtain ⟨hready, hexec⟩ := hinv.icoReady.exec_roll
  obtain ⟨t, hb, ht⟩ := hready.bridge_next
  obtain ⟨hframe, hlisted⟩ := rolledFour_rolledFrom s
  rw [rolledFour_idx] at hframe
  refine ⟨_, _, _, _, _, s.rolledFour, t, randItem_lt (by omega) _, randItem_lt (by omega) _, randItem_lt (by omega) _,
    randItem_lt (by omega) _, fun a ha => randItem_of_draw 5 ha, fun a ha => randItem_of_draw 3 ?_,
    fun a ha => randItem_of_draw 2 ?_, fun a ha => randItem_of_draw 2 ?_, hlisted, hframe, hb, hexec.trans ht⟩ <;>
  simpa using ha

/-! ## STORE and LOAD -/

theorem exec_store (s : State) : exec .store s = (bridge (s.popped.icoStore (s.operand 0))).outcome := by
  rw [← top_eq_operand]
  rfl

/-- R182 after R181. -/
@[simp] theorem icoLoad_icoStore (s : State) (v : Int) : (s.icoStore v).icoLoad = v :=
  Vector.getElem_set_self _

/-- R337 after R181. -/
theorem exec_load_icoStore {s : State} (v : Int) (h : s.roomAfter 0) :
    exec .load (s.icoStore v) = .next { s.icoStore v with stack := v :: s.stack } := by
  have hload : exec .load (s.icoStore v) = (push (s.icoStore v).icoLoad (s.icoStore v)).outcome := rfl
  rw [hload, icoLoad_icoStore]
  exact push_outcome_room v h

/-- Settles O48: the bridge runs after the word is stored; without a cursor it does nothing. -/
theorem storeWritesTheActiveFace : Obligations.StoreWritesTheActiveFace := by
  intro s hinv
  rw [exec_store]
  refine ⟨(hinv.icoReady.popped.icoStore _).bridge_next, fun hc hroom => ⟨s.popped.icoStore (s.operand 0), ?_, ?_⟩⟩
  · have hmode : (s.popped.icoStore (s.operand 0)).cmode = .none := hc
    rw [bridge_noCursor hmode, Flow.outcome_cont]
  · exact exec_load_icoStore _ ((popped_roomAfter s 0).2 hroom)

/-! ## The cursor moves -/

theorem icoMove_of_still {s : State} {d : Dir} (h : s.cmode = .none ∨ ¬ s.InBounds (stepFrom d s.icoPos)) : icoMove d s = .cont s := by
  unfold icoMove
  split_ifs with hnone hin
  · rfl
  · exact absurd h (by simp [hnone, hin])
  · rfl

/-- R342: the rotation at the departing cell, the advance, the bridge at the new one. -/
theorem IcoReady.icoMove_eq {s : State} {d : Dir} (h : IcoReady s) (hc : s.cmode ≠ .none) (hin : s.InBounds (stepFrom d s.icoPos)) :
    icoMove d s =
      bridge ((s.permuted (s.table (icoMoveRotation s.params.icoMove d s.icoPos))).setIcoPos (stepFrom d s.icoPos)) := by
  rw [icoMove, if_neg hc, if_pos hin, h.rotate_eq, Flow.bind_cont]

/-- Settles O49: the two branches of a cursor move. -/
theorem cursorMovesRollTheIcosahedron : Obligations.CursorMovesRollTheIcosahedron := by
  intro s i d hinv hd
  rw [exec_of_cursorMoveDir s hd]
  refine ⟨fun hstill => congrArg Flow.outcome (icoMove_of_still hstill), fun hc hin => ?_⟩
  have hready : IcoReady s := hinv.icoReady
  obtain ⟨t, hb, ht⟩ := ((hready.permuted _).setIcoPos hin).bridge_next
  refine ⟨_, t, rfl, permutedBy_permute _ _, hb, ?_⟩
  rw [hready.icoMove_eq hc hin, ht]

end Sys2Proof.Machine
end

section
/-! PROOF. ROTATE_CELLS (47_grid_selfmod.md R360 to R362): a sequence of grid writes at distinct cells inside the grid goes on, the cells
written read as their new values and the others as before. -/

namespace Sys2Proof.Machine

/-! ## Sequences of grid writes -/

/-- The state after the grid writes of a list, in order. -/
def State.withCells : List (Coord × Int) → State → State
  | [], s => s
  | (c, v) :: rest, s => (s.withCell c v).withCells rest

theorem withCells_frame (l : List (Coord × Int)) (s : State) : s.withCells l = { s with grid := (s.withCells l).grid } := by
  induction l generalizing s with
  | nil => rfl
  | cons e l ih => exact ih (s.withCell e.1 e.2)

theorem withCells_sorted (l : List (Coord × Int)) {s : State} (hs : memSorted s.grid = true) :
    memSorted (s.withCells l).grid = true := by
  induction l generalizing s with
  | nil => exact hs
  | cons e l ih => exact ih (memSorted_memWrite e.1 e.2 s.grid hs)

/-- R73: writes inside the grid all go on. -/
theorem writeCells_inBounds {l : List (Coord × Int)} {s : State} (h : ∀ e ∈ l, s.InBounds e.1) :
    writeCells l s = .cont (s.withCells l) := by
  induction l generalizing s with
  | nil => rfl
  | cons e l ih =>
    obtain ⟨hin, hrest⟩ := List.forall_mem_cons.1 h
    rw [writeCells, gridWrite_inBounds e.2 hin, Flow.bind_cont]
    exact ih hrest

theorem gridRead_withCells_of_notMem {l : List (Coord × Int)} {s : State} {c : Coord} (hs : memSorted s.grid = true)
    (h : ∀ e ∈ l, s.InBounds e.1) (hc : ∀ e ∈ l, c ≠ e.1) : (s.withCells l).gridRead c = s.gridRead c := by
  induction l generalizing s with
  | nil => rfl
  | cons e l ih =>
    obtain ⟨hin, hrest⟩ := List.forall_mem_cons.1 h
    obtain ⟨hne, hother⟩ := List.forall_mem_cons.1 hc
    calc ((s.withCell e.1 e.2).withCells l).gridRead c
        = (s.withCell e.1 e.2).gridRead c := ih (memSorted_memWrite _ _ _ hs) hrest hother
      _ = s.gridRead c := by rw [gridRead_withCell s e.1 c e.2 hs hin, if_neg hne]

/-- A cell written once reads as the value written. -/
theorem gridRead_withCells_of_mem {l : List (Coord × Int)} {s : State} {c : Coord} {v : Int} (hs : memSorted s.grid = true)
    (h : ∀ e ∈ l, s.InBounds e.1) (hl : (l.map Prod.fst).Nodup) (hc : (c, v) ∈ l) : (s.withCells l).gridRead c = v := by
  induction l generalizing s with
  | nil => cases hc
  | cons e l ih =>
    obtain ⟨hin, hrest⟩ := List.forall_mem_cons.1 h
    obtain ⟨hnew, hl⟩ := List.nodup_cons.1 hl
    have hs' : memSorted (s.withCell e.1 e.2).grid = true := memSorted_memWrite e.1 e.2 s.grid hs
    rcases List.mem_cons.1 hc with rfl | hc
    · have hother : ∀ e ∈ l, c ≠ e.1 := fun e he hce => hnew (List.mem_map.2 ⟨e, he, hce.symm⟩)
      calc ((s.withCell c v).withCells l).gridRead c
          = (s.withCell c v).gridRead c := gridRead_withCells_of_notMem hs' hrest hother
        _ = v := by rw [gridRead_withCell s c c v hs hin, if_pos rfl]
    · exact ih hs' hrest hl hc

theorem IcoReady.withCells {s : State} (h : IcoReady s) (l : List (Coord × Int)) : IcoReady (s.withCells l) := by
  have hsorted := withCells_sorted l h.gridSorted
  rw [withCells_frame] at hsorted ⊢
  exact { h with gridSorted := hsorted }

/-! ## The ring -/

theorem ringCell_inBounds {s : State} {x y : Int} (h : s.BlockInBounds x y) (i : Nat) : s.InBounds (ringCell x y i) := by
  obtain ⟨hxlo, hxhi, hylo, hyhi⟩ := h
  unfold ringCell
  split <;> simp only [State.InBounds] <;> omega

/-- The six cells of the ring are distinct. -/
theorem ringCells_nodup (x y : Int) : ([0, 1, 2, 3, 4, 5].map (ringCell x y)).Nodup := by
  simp [ringCell]

theorem ringWrites_inBounds {s : State} {x y : Int} (h : s.BlockInBounds x y) (n : Nat) :
    ∀ e ∈ ringWrites s x y n, s.InBounds e.1 := by
  intro e he
  obtain ⟨i, -, rfl⟩ := List.mem_map.1 he
  exact ringCell_inBounds h i

theorem ringWrites_keys (s : State) (x y : Int) (n : Nat) :
    (ringWrites s x y n).map Prod.fst = [0, 1, 2, 3, 4, 5].map (ringCell x y) :=
  List.map_map

/-- R362, seen from the cell whose value is taken. -/
theorem mem_ringWrites (s : State) (x y : Int) {i n : Nat} (hi : i < 6) (hn : n < 6) :
    (ringCell x y ((i + n) % 6), s.gridRead (ringCell x y i)) ∈ ringWrites s x y n := by
  have hback : ((i + n) % 6 + 6 - n) % 6 = i := by omega
  have hmem : (i + n) % 6 ∈ [0, 1, 2, 3, 4, 5] := List.mem_range.2 (Nat.mod_lt _ (by omega))
  exact List.mem_map.2 ⟨(i + n) % 6, hmem, by rw [hback]⟩

theorem key_mem_ring {s : State} {x y : Int} {n : Nat} {e : Coord × Int} (h : e ∈ ringWrites s x y n) :
    ∃ i, i < 6 ∧ e.1 = ringCell x y i := by
  obtain ⟨i, hi, rfl⟩ := List.mem_map.1 h
  exact ⟨i, List.mem_range.1 hi, rfl⟩

/-! ## The block -/

theorem rotateBlock_of_outside {s : State} {y xh : Int} (m : Int) (h : ¬ s.BlockInBounds (blockColumn y xh) y) :
    rotateBlock y xh m s = .cont s := if_neg h

/-- R362: the six writes and then the bridge. -/
theorem rotateBlock_of_inBounds {s : State} {y xh : Int} (m : Int) (h : s.BlockInBounds (blockColumn y xh) y) :
    rotateBlock y xh m s = bridge (s.withCells (ringWrites s (blockColumn y xh) y (fmod m 6).toNat)) := by
  rw [rotateBlock, if_pos h, writeCells_inBounds (ringWrites_inBounds h _), Flow.bind_cont]

/-- The operands `y`, `xh` and `m`, and the state after their pops. -/
theorem exec_rotateCells (s : State) :
    exec .rotateCells s =
      (rotateBlock (s.operand 0) (s.operand 1) (s.operand 2) { s with stack := s.stack.drop 3 }).outcome := by
  have hexec : exec .rotateCells s = (rotateBlock s.top s.popped.top s.popped.popped.top s.popped.popped.popped).outcome := rfl
  rw [hexec, top_eq_operand, top_eq_operand, top_eq_operand, popped_operand, popped_operand, popped_operand, popped_popped]
  simp only [State.popped, ← List.drop_one, List.drop_drop]

theorem blockColumn_eq (y xh : Int) : blockColumn y xh = 2 * xh + y % 2 := by
  rw [blockColumn, fmod, Int.fmod_eq_emod_of_nonneg _ (by omega)]

/-- R362's `n` is the residue of the popped `m` modulo 6. -/
theorem fmod_six_toNat {m : Int} {n : Nat} (hn : n < 6) (h : (6 : Int) ∣ (n : Int) - m) : (fmod m 6).toNat = n := by
  rw [fmod, Int.fmod_eq_emod_of_nonneg _ (by omega)]
  omega

/-- R360's bounds, on the column `2*xh + y mod 2`. -/
theorem blockInBounds_iff {s : State} {y xh : Int} :
    s.BlockInBounds (blockColumn y xh) y ↔
      0 ≤ 2 * xh + y % 2 ∧ 2 * xh + y % 2 + 2 ≤ (s.gw : Int) - 1 ∧ 0 ≤ y ∧ y + 1 ≤ (s.gh : Int) - 1 := by
  rw [blockColumn_eq]

/-- R362, with the state between the six writes and the bridge. -/
theorem IcoReady.rotateBlock_next {s : State} {y xh m : Int} {n : Nat} (h : IcoReady s)
    (hblock : s.BlockInBounds (blockColumn y xh) y) (hn : n < 6) (hm : (6 : Int) ∣ (n : Int) - m) :
    ∃ u t : State, u = { s with grid := u.grid } ∧
      (∀ i, i < 6 → u.gridRead (ringCell (blockColumn y xh) y ((i + n) % 6)) = s.gridRead (ringCell (blockColumn y xh) y i)) ∧
      (∀ c, (∀ i, i < 6 → c ≠ ringCell (blockColumn y xh) y i) → u.gridRead c = s.gridRead c) ∧
      Bridged u t ∧ (rotateBlock y xh m s).outcome = .next t := by
  have hin := ringWrites_inBounds hblock n
  have hkeys : ((ringWrites s (blockColumn y xh) y n).map Prod.fst).Nodup := ringWrites_keys s _ _ n ▸ ringCells_nodup _ _
  obtain ⟨t, hb, ht⟩ := (h.withCells (ringWrites s (blockColumn y xh) y n)).bridge_next
  refine ⟨_, t, withCells_frame _ _, fun i hi => ?_, fun c hc => ?_, hb, ?_⟩
  · exact gridRead_withCells_of_mem h.gridSorted hin hkeys (mem_ringWrites s _ _ hi hn)
  · refine gridRead_withCells_of_notMem h.gridSorted hin fun e he hce => ?_
    obtain ⟨i, hi, hkey⟩ := key_mem_ring he
    exact hc i hi (hce.trans hkey)
  · rw [rotateBlock_of_inBounds _ hblock, fmod_six_toNat hn hm, ht]

/-- Settles O51: the pops come before the bounds are looked at. -/
theorem rotateCellsOutOfBoundsOnlyPops : Obligations.RotateCellsOutOfBoundsOnlyPops := by
  intro s x hx hout
  subst hx
  rw [exec_rotateCells]
  exact congrArg Flow.outcome (rotateBlock_of_outside (s := { s with stack := s.stack.drop 3 }) _ (mt blockInBounds_iff.1 hout))

/-- Settles O50: the block is rotated in the popped state. -/
theorem rotateCellsTurnsTheHexagon : Obligations.RotateCellsTurnsTheHexagon := by
  intro s x n hinv hx hn hm hxlo hxhi hylo hyhi
  subst hx
  have hready : IcoReady ({ s with stack := s.stack.drop 3 } : State) := { hinv.icoReady with }
  rw [exec_rotateCells, ← blockColumn_eq]
  exact hready.rotateBlock_next (blockInBounds_iff.2 ⟨hxlo, hxhi, hylo, hyhi⟩) hn hm

end Sys2Proof.Machine
end

section
/-! PROOF. Every sound state steps, by totality from the instruction up: an execution, the executions of a tick, the tick, the run
(60_exceptions.md R431, R460). And no step writes the configuration: the executions, the move and the run states leave it
(70_reset_and_hazards.md R476). -/

namespace Sys2Proof.Machine

/-! ## Sequences that answer a next state -/

/-- The sequence does not end in one of the model's own stops. -/
def Flow.Answers (x : Flow) : Prop := ∃ t, x.outcome = .next t

theorem Flow.answers_cont (s : State) : (Flow.cont s).Answers := ⟨s, rfl⟩
theorem Flow.answers_stop (s : State) : (Flow.stop s).Answers := ⟨s, rfl⟩

theorem push_answers (v : Int) (s : State) : (push v s).Answers := by
  rcases push_cases v s with ⟨-, e⟩ | ⟨-, e⟩ <;> rw [e]
  · exact Flow.answers_cont _
  · exact Flow.answers_stop _

theorem dividing_answers (f : Int → Int → Int) (s : State) : (dividing f s).Answers := by
  unfold dividing
  split_ifs
  · exact Flow.answers_stop _
  · exact push_answers _ _

theorem swap_answers (s : State) : ((push s.top s.popped.popped).bind (push s.popped.top)).Answers := by
  rcases push_cases s.top s.popped.popped with ⟨-, e⟩ | ⟨-, e⟩ <;> rw [e]
  · exact push_answers _ _
  · exact Flow.answers_stop _

/-- R13: the divisors are the sizes of a grid that has cells. -/
theorem MidTick.withCoord_answers {s : State} (h : MidTick s) (f : Coord → State → State) : (withCoord f s).Answers :=
  have ⟨hw, hh⟩ := h.nonempty
  ⟨_, withCoord_outcome f hw hh⟩

theorem MidTick.icoReady {s : State} (h : MidTick s) : IcoReady s :=
  have ⟨hsorted, _, _⟩ := Memory.wf_iff.1 h.gridForm
  ⟨Params.rotTable_of_ok h.params, h.idxBijection, hsorted, h.cursor⟩

namespace IcoReady

variable {s : State}

theorem bridge_answers (h : IcoReady s) : (bridge s).Answers :=
  have ⟨t, _, ht⟩ := h.bridge_next
  ⟨t, ht⟩

theorem rot_answers (h : IcoReady s) (r : Rotation) : (rot r s).Answers :=
  have ⟨_, t, _, _, _, ht⟩ := h.rot_next r
  ⟨t, ht⟩

theorem exec_roll_answers (h : IcoReady s) : ∃ t, exec .roll s = .next t := by
  obtain ⟨hready, e⟩ := h.exec_roll
  rw [e]
  exact hready.bridge_answers

theorem icoMove_answers (h : IcoReady s) (d : Dir) : (icoMove d s).Answers := by
  by_cases hstill : s.cmode = .none ∨ ¬ s.InBounds (stepFrom d s.icoPos)
  · rw [icoMove_of_still hstill]
    exact Flow.answers_cont s
  · obtain ⟨hmode, hin⟩ := not_or.1 hstill
    rw [h.icoMove_eq hmode (not_not.1 hin)]
    exact ((h.permuted _).setIcoPos (not_not.1 hin)).bridge_answers

theorem rotateBlock_answers (h : IcoReady s) (y xh m : Int) : (rotateBlock y xh m s).Answers := by
  by_cases hblock : s.BlockInBounds (blockColumn y xh) y
  · rw [rotateBlock_of_inBounds m hblock]
    exact (h.withCells _).bridge_answers
  · rw [rotateBlock_of_outside m hblock]
    exact Flow.answers_cont s

end IcoReady

/-! ## One execution -/

/-- Inside a tick of a sound core every instruction has a next state (R72, R73). -/
theorem exec_answers (i : Instr) {s : State} (h : MidTick s) : ∃ t, exec i s = .next t := by
  have ico : IcoReady s := h.icoReady
  cases i with
  | mirrorSwNe | mirrorNwSe | mirrorWE | mirrorNS | strafe | skip | skipZ | iterate | turnL | turnR | turnC | discard | reverse
  | rotl | rotr | cursorEnd | writeByte | printInt | writeNl | stringToggle | terminate | nop | debug => exact ⟨_, rfl⟩
  | push0 | digit | inc | dec | not | neg | bnot | add | sub | mul | and | or | xor | depth | pushFace | load | readByte
  | readInt => exact push_answers _ _
  | dup =>
    rw [exec_dup]
    exact push_answers _ s
  | div | mod => exact dividing_answers _ s
  | swap => exact swap_answers s
  | jump | cursorGet | cursorSet => exact h.withCoord_answers _
  | rotEdgeNw | rotEdgeNe | rotEdgeS | rotEdgeNwN | rotEdgeNeSe | rotEdgeSSw | rotCornerN | rotCornerSe | rotCornerSw
  | rotFace | rotFlip => exact ico.rot_answers _
  | rotCond => exact ico.popped.rot_answers _
  | rotRand => exact ico.randNext.rot_answers _
  | roll => exact ico.exec_roll_answers
  | store => exact (ico.popped.icoStore s.top).bridge_answers
  | icoMoveW | icoMoveE | icoMoveNw | icoMoveNe | icoMoveSw | icoMoveSe => exact ico.icoMove_answers _
  | rotateCells => exact ico.popped.popped.popped.rotateBlock_answers _ _ _

/-! ## One tick -/

/-- Each execution answers and leaves a state from which the next one does. -/
theorem repeatExec_answers (i : Instr) (n : Nat) {s : State} (h : MidTick s) (hr : s.runState = .running) :
    ∃ t, repeatExec i n s = .next t := by
  induction n generalizing s with
  | zero => exact ⟨s, rfl⟩
  | succ n ih =>
    obtain ⟨t, e⟩ := exec_answers i h
    by_cases ht : t.runState = .running
    · rw [repeatExec_of_running n e ht]
      exact ih (exec_midTick h hr e) ht
    · exact ⟨t, repeatExec_of_stopped n e ht⟩

theorem moveAndCount_answers (s : State) : ∃ t, moveAndCount s = .next t := by
  rcases moveAndCount_cases s with ⟨_, -, e⟩ | ⟨_, -, -, e⟩
  · exact ⟨_, e⟩
  · exact ⟨_, e⟩

theorem finishTick_answers {x : Host.Outcome State Fault Refusal} (h : ∃ u, x = .next u) : ∃ t, finishTick x = .next t := by
  obtain ⟨u, rfl⟩ := h
  by_cases hr : u.runState = .running
  · rw [finishTick_of_running hr]
    exact moveAndCount_answers u
  · exact ⟨u, finishTick_of_stopped hr⟩

theorem stringCell_answers (s : State) : (stringCell s).Answers := by
  unfold stringCell
  split_ifs
  · exact Flow.answers_cont _
  · exact push_answers _ _

theorem MidTick.decodedStart {s : State} (h : MidTick s) : MidTick s.decodedStart := by
  obtain ⟨l, e⟩ := tickHook_frame s
  have hhook : MidTick s.tickHook := e ▸ { h with }
  exact hhook.setIter (inRange_small hhook.wordBits (v := 1) (by omega) (by omega)).2

theorem tickStep_answers {s : State} (h : Inv s) (hr : s.runState = .running) : ∃ t, step s = .next t := by
  by_cases hcap : s.Capped
  · exact ⟨_, (step_of_running hr).trans (tickStep_of_capped hcap)⟩
  · cases hmode : s.stringMode with
    | true =>
      rw [step_of_stringMode hr hcap hmode]
      exact finishTick_answers (stringCell_answers _)
    | false =>
      have hdecodes : s.Decodes := ⟨hr, hcap, hmode⟩
      rw [step_of_decodes hdecodes]
      exact finishTick_answers (repeatExec_answers _ _ (h.midTick hr).decodedStart (State.decodedStart_runState hdecodes))

/-! ## The run -/

/-- The run states that R460 makes absorbing. -/
def State.Ended (s : State) : Prop := s.runState = .haltNormal ∨ s.runState = .haltCapped ∨ s.runState = .faulted

theorem step_of_ended {s : State} (h : s.Ended) : step s = .next s := by
  rcases h with h | h | h <;> rw [step, coreStep, h]

/-- Settles O4, by the run state: the run start and an ended run always step, and a tick does from a sound state. -/
theorem soundStateAlwaysSteps : Obligations.SoundStateAlwaysSteps := by
  intro s h
  cases hr : s.runState with
  | idle => exact ⟨_, step_of_idle hr⟩
  | running => exact tickStep_answers h hr
  | haltNormal => exact ⟨s, step_of_ended (.inl hr)⟩
  | haltCapped => exact ⟨s, step_of_ended (.inr (.inl hr))⟩
  | faulted => exact ⟨s, step_of_ended (.inr (.inr hr))⟩

theorem run_of_fixed {M : Host.Core} {s : M.State} (h : M.step s = .next s) (k : Nat) : M.run k s = .next s := by
  induction k with
  | zero => rfl
  | succ k ih => rw [Host.Core.run, h]; exact ih

/-- Settles O7: the state is a fixed point of the step. -/
theorem haltedCoreIsConstant : Obligations.HaltedCoreIsConstant := fun _ k h =>
  run_of_fixed (M := Sys2Proof.core) (step_of_ended h) k

/-! ## The configuration -/

/-- What the launch fixes (70_reset_and_hazards.md R476; 10_state.md R31, R49). -/
structure Configuration where
  params : Params
  gw : Nat
  gh : Nat
  maxTicks : BitVec 64
  debugLevel : BitVec 8

def State.configuration (s : State) : Configuration :=
  { params := s.params, gw := s.gw, gh := s.gh, maxTicks := s.maxTicks, debugLevel := s.debugLevel }

/-- The configuration is `k`: a property to carry through a sequence. -/
abbrev HasConfiguration (k : Configuration) (s : State) : Prop := s.configuration = k

/-- The configuration is a part of the control part, which a push or a popped word leaves alone. -/
theorem configuration_of_control {s t : State} (h : t.control = s.control) : t.configuration = s.configuration := by
  simp only [State.control, Control.mk.injEq] at h
  simp only [State.configuration, h]

theorem exec_configuration {i : Instr} {s t : State} (h : exec i s = .next t) : t.configuration = s.configuration := by
  have frame := exec_controlFrame h
  simp only [State.configuration, frame.params, frame.gw, frame.gh, frame.maxTicks, frame.debugLevel]

@[simp] theorem tickHook_configuration (s : State) : s.tickHook.configuration = s.configuration := by
  obtain ⟨_, e⟩ := tickHook_frame s
  rw [e]; rfl

theorem stringCell_configuration {s t : State} (h : (stringCell s).outcome = .next t) : t.configuration = s.configuration := by
  by_cases hquote : s.fetch = 0x22
  · rw [stringCell_of_quote hquote] at h
    exact next_keeps (P := HasConfiguration s.configuration) h rfl
  · rw [stringCell_of_other hquote] at h
    exact configuration_of_control (push_yields_control (s := s) s.fetch rfl t h)

theorem decodedCell_configuration {s t : State} (hr : s.runState = .running) (h : decodedCell s = .next t) :
    t.configuration = s.configuration :=
  repeatExec_induction (P := HasConfiguration s.configuration) (fun _ _ hu _ he => (exec_configuration he).trans hu)
    s.iter { s with iter := 1 } t rfl hr h

theorem move_yields_configuration (s : State) : (move s).Yields (HasConfiguration s.configuration) := by
  rcases move_cases s with ⟨-, e⟩ | ⟨-, -, -, e⟩ | ⟨-, -, e⟩ <;> rw [e]
  · exact Flow.yields_cont.2 rfl
  · exact Flow.yields_cont.2 rfl
  · rcases normalStep_cases { s with strafePending := false } with ⟨d, c, -, -, e⟩ | ⟨-, e⟩ | ⟨-, e⟩ <;> rw [e]
    · exact Flow.yields_cont.2 rfl
    · exact Flow.yields_cont.2 rfl
    · exact Flow.yields_stop.2 rfl

theorem moveAndCount_configuration {s t : State} (h : moveAndCount s = .next t) : t.configuration = s.configuration := by
  have hmove := move_yields_configuration s
  rcases moveAndCount_cases s with ⟨u, hu, e⟩ | ⟨u, hu, -, e⟩
  · rw [hu, Flow.yields_cont] at hmove
    exact next_keeps (P := HasConfiguration s.configuration) (e.symm.trans h) hmove
  · rw [hu, Flow.yields_stop] at hmove
    exact next_keeps (P := HasConfiguration s.configuration) (e.symm.trans h) hmove

theorem finishTick_configuration {k : Configuration} {x : Host.Outcome State Fault Refusal} {t : State}
    (hx : ∀ u, x = .next u → u.configuration = k) (h : finishTick x = .next t) : t.configuration = k := by
  obtain ⟨u, hu, ⟨-, hmove⟩ | ⟨-, rfl⟩⟩ := finishTick_eq_next.1 h
  · exact (moveAndCount_configuration hmove).trans (hx u hu)
  · exact hx t hu

theorem tickStep_configuration {s t : State} (hr : s.runState = .running) (h : tickStep s = .next t) :
    t.configuration = s.configuration := by
  rcases tickStep_cases s with ⟨-, e⟩ | ⟨-, -, e⟩ | ⟨-, -, e⟩
  · exact next_keeps (P := HasConfiguration s.configuration) (e.symm.trans h) rfl
  · exact finishTick_configuration (fun _ hu => (stringCell_configuration hu).trans (tickHook_configuration s)) (e.symm.trans h)
  · exact finishTick_configuration (fun _ hu => (decodedCell_configuration (s.tickHook_runState.trans hr) hu).trans
      (tickHook_configuration s)) (e.symm.trans h)

theorem step_configuration {s t : State} (h : step s = .next t) : t.configuration = s.configuration := by
  have hended (hr : s.Ended) : t.configuration = s.configuration :=
    next_keeps (P := HasConfiguration s.configuration) ((step_of_ended hr).symm.trans h) rfl
  cases hr : s.runState with
  | idle => exact next_keeps (P := HasConfiguration s.configuration) ((step_of_idle hr).symm.trans h) rfl
  | running => exact tickStep_configuration hr ((step_of_running hr).symm.trans h)
  | haltNormal => exact hended (.inl hr)
  | haltCapped => exact hended (.inr (.inl hr))
  | faulted => exact hended (.inr (.inr hr))

/-- Settles O5: the parts of the configuration. -/
theorem stepKeepsConfiguration : Obligations.StepKeepsConfiguration := fun _ _ h =>
  Configuration.mk.inj (step_configuration h)

end Sys2Proof.Machine
end

section
/-! PROOF. Faults of an execution (60_exceptions.md R431 to R441): the operands are popped, nothing is pushed, the code and the run state
are written. And what the debug port shows of a state (R455). -/

namespace Sys2Proof.Machine

/-! ## DIV_BY_ZERO -/

theorem dividing_zero_outcome {s : State} (f : Int → Int → Int) (h : s.operand 0 = 0) :
    (dividing f s).outcome =
      .next { s with stack := s.stack.drop 2, faultCode := .divByZero, runState := .faulted } := by
  rw [dividing_zero f h, popped_popped]
  rfl

/-- Settles O31: both opcodes are divisions. -/
theorem zeroDivisorFaults : Obligations.ZeroDivisorFaults := fun _ h =>
  ⟨dividing_zero_outcome _ h, dividing_zero_outcome _ h⟩

/-! ## STACK_OVERFLOW -/

/-- The state after `k` pops and a push that found no room (R434, R441). -/
def State.overflowed (k : Nat) (s : State) : State :=
  { s with stack := s.stack.drop k, faultCode := .stackOverflow, runState := .faulted }

theorem push_outcome_full {s : State} (v : Int) (h : s.params.stackMax = some s.stack.length) :
    (push v s).outcome = .next (s.overflowed 0) := by
  rw [push_full v (not_not.2 h)]
  rfl

theorem unary_full {s : State} (f : Int → Int) (h : s.params.stackMax = some (s.stack.length - 1)) :
    (unary f s).outcome = .next (s.overflowed 1) := by
  rw [unary, push_outcome_full _ (by simpa using h), State.overflowed, State.overflowed, State.popped_stack, List.drop_zero,
    List.drop_one]
  rfl

theorem binary_full {s : State} (f : Int → Int → Int) (h : s.params.stackMax = some (s.stack.length - 2)) :
    (binary f s).outcome = .next (s.overflowed 2) := by
  rw [binary, popped_popped, push_outcome_full _ (by simpa using h)]
  rfl

/-- The faults of SWAP's first push and of its second (R302). -/
theorem exec_swap_eq (s : State) :
    exec .swap s = ((push (s.operand 0) { s with stack := s.stack.drop 2 }).bind (push (s.operand 1))).outcome := by
  rw [← popped_popped, ← popped_operand, ← top_eq_operand, ← top_eq_operand]
  rfl

theorem exec_swap_full {s : State} (h : s.params.stackMax = some (s.stack.length - 2)) :
    exec .swap s = .next (s.overflowed 2) := by
  rw [exec_swap_eq, push_full _ (by simpa [State.roomAfter] using h)]
  rfl

theorem exec_swap_second_full {s : State} (h : s.params.stackMax = some (s.stack.length - 2 + 1)) :
    exec .swap s = .next { s with
      stack := s.operand 0 :: s.stack.drop 2
      faultCode := .stackOverflow
      runState := .faulted } := by
  rw [exec_swap_eq, push_room _ (by simp [State.roomAfter, h]), Flow.bind_cont, push_outcome_full _ (by simpa using h)]
  rfl

/-- An opcode that pops `k` words and then pushes faults where the pops leave no room. -/
theorem exec_full_of_popsBeforePush {s : State} {i : Instr} {k : Nat} (hi : popsBeforePush i = some k)
    (h : s.params.stackMax = some (s.stack.length - k)) : exec i s = .next (s.overflowed k) := by
  cases i with
  | push0 | depth | pushFace | load =>
    cases hi
    exact push_outcome_full _ h
  | dup =>
    cases hi
    rw [exec_dup]
    exact push_outcome_full _ h
  | digit | inc | dec | not | neg | bnot =>
    cases hi
    exact unary_full _ h
  | add | sub | mul | and | or | xor =>
    cases hi
    exact binary_full _ h
  | swap =>
    cases hi
    exact exec_swap_full h
  | _ => cases hi

/-- R439: a division reaches its push with a divisor other than 0. -/
theorem dividing_full {s : State} (f : Int → Int → Int) (hdivisor : s.operand 0 ≠ 0)
    (h : s.params.stackMax = some (s.stack.length - 2)) : (dividing f s).outcome = .next (s.overflowed 2) := by
  rw [dividing_nonzero f hdivisor, binary_full f h]

/-- Settles O34: the opcodes that only push, the divisions, and the second push of SWAP. -/
theorem pushOnFullStackFaults : Obligations.PushOnFullStackFaults := by
  intro s
  refine ⟨fun i k => exec_full_of_popsBeforePush, fun i hi hdivisor h => ?_, exec_swap_second_full⟩
  simp only [List.mem_cons, List.not_mem_nil, or_false] at hi
  rcases hi with rfl | rfl
  · exact dividing_full _ hdivisor h
  · exact dividing_full _ hdivisor h

/-! ## INVARIANT -/

/-- A table that takes two positions to equal entries leaves `idx` with a repeat. -/
theorem permute_not_nodup {p : PermTable} {idx : Vector (Fin 20) 20} {j k : Fin 20} (hne : j ≠ k) (h : idx[p[j]] = idx[p[k]]) :
    ¬ (permute p idx).toList.Nodup := fun hnodup =>
  hne (get_injective hnodup (by rw [permute_get, permute_get, h]))

theorem rot_of_not_nodup {s : State} {r : Rotation} (h : ¬ (permute (s.table r) s.idx).toList.Nodup) :
    rot r s = .stop (s.raised .invariant) := by
  rcases rotate_cases r s with ⟨hnodup, -⟩ | ⟨-, e⟩
  · exact absurd hnodup h
  · rw [rot, e, Flow.bind_stop]

/-- Settles O47: the rotation stops before the bridge. -/
theorem badTableRaisesInvariant : Obligations.BadTableRaisesInvariant := by
  rintro s i r hr ⟨j, k, hne, h⟩
  rw [exec_of_namedRotation s hr, rot_of_not_nodup (permute_not_nodup hne h)]
  rfl

/-! ## The snapshot -/

/-- 10_state.md R47. -/
theorem runStateCode_values :
    ∀ e ∈ [(RunState.idle, (0 : Int)), (.running, 1), (.haltNormal, 2), (.haltCapped, 3), (.faulted, 4)],
      ((runStateCode e.1).toNat : Int) = e.2 := by decide

/-- R432. -/
theorem faultCodeCode_values :
    ∀ e ∈ [(FaultCode.none, (0 : Int)), (.divByZero, 1), (.stackOverflow, 2), (.invariant, 3), (.programError, 4), (.noMove, 5)],
      ((faultCodeCode e.1).toNat : Int) = e.2 := by decide

/-- 10_state.md R34. -/
theorem dirIndex_values :
    ∀ e ∈ [(Dir.ne, (0 : Int)), (.e, 1), (.se, 2), (.sw, 3), (.w, 4), (.nw, 5)],
      ((BitVec.ofNat 3 (dirIndex e.1).val).toNat : Int) = e.2 := by decide

/-- 10_state.md R38. -/
theorem cmodeCode_values :
    ∀ e ∈ [(CursorMode.none, (0 : Int)), (.get, 1), (.set, 2)], ((cmodeCode e.1).toNat : Int) = e.2 := by decide

theorem element_eq_number {n : Snapshot} {k : Nat} {u v : Int} (hk : n.element k = some (.number u)) (h : u = v) :
    n.element k = some (.number v) := h ▸ hk

theorem snapshot_idx_get (s : State) (k : Fin 20) : s.snapshot.idx[k.val]? = some (s.idx[k].val + 1) := by
  simp [State.snapshot]

/-- Settles O60: the four coded elements by the tables of their codes, the others as they stand in the state. -/
theorem snapshotShowsTheState : Obligations.SnapshotShowsTheState := by
  rintro s n rfl
  refine ⟨fun r v hv hr => ?_, fun f v hv hf => ?_, rfl, rfl, rfl, rfl, fun d v hv hd => ?_, rfl, rfl, rfl, rfl,
    fun m v hv hm => ?_, rfl, rfl, rfl, rfl, rfl, rfl, rfl, ?_, snapshot_idx_get s⟩
  · subst hr
    exact element_eq_number rfl (runStateCode_values _ hv)
  · subst hf
    exact element_eq_number rfl (faultCodeCode_values _ hv)
  · subst hd
    exact element_eq_number rfl (dirIndex_values _ hv)
  · subst hm
    exact element_eq_number rfl (cmodeCode_values _ hv)
  · simp [State.snapshot]

end Sys2Proof.Machine
end

section
/-! PROOF. The input and output opcodes (48_io.md R380 to R387). What an input read answers is the head of the pending bytes; the digit loop
of READ_INT runs along them; and a decimal text is a digit after the text of a tenth of the number. -/

namespace Sys2Proof.Machine

/-! ## One input read -/

theorem inRead_of_pushedBack {s : State} (h : s.pushback ≠ .empty) : s.inRead = { s with pushback := .empty } := by
  cases hp : s.pushback with
  | empty => exact absurd hp h
  | byte b => rw [State.inRead, hp]
  | eos => rw [State.inRead, hp]

theorem inRead_of_empty {s : State} (h : s.pushback = .empty) : s.inRead = { s with input := s.input.tail } := by
  rw [State.inRead, h]

theorem inItem_of_byte {s : State} {b : Byte} (h : s.pushback = .byte b) : s.inItem = .byte b := by
  rw [State.inItem, h]

theorem inItem_of_eos {s : State} (h : s.pushback = .eos) : s.inItem = .eos := by
  rw [State.inItem, h]

theorem inItem_of_stream {s : State} {b : Byte} {rest : List Byte} (h : s.pushback = .empty) (hi : s.input = b :: rest) :
    s.inItem = .byte b := by
  rw [State.inItem, h, State.portItem, hi]

theorem inItem_of_end {s : State} (h : s.pushback = .empty) (hi : s.input = []) : s.inItem = .eos := by
  rw [State.inItem, h, State.portItem, hi]

/-- R380: the first pending byte, from the slot or from the stream. -/
theorem inRead_of_pending_cons {s : State} {b : Byte} {l : List Byte} (hne : s.pushback ≠ .eos) (h : s.pending = b :: l) :
    s.inItem = .byte b ∧ s.inRead = { s with input := l, pushback := .empty } := by
  cases hp : s.pushback with
  | empty =>
    have hi : s.input = b :: l := by simpa [State.pending, hp] using h
    exact ⟨inItem_of_stream hp hi, by rw [inRead_of_empty hp, hi, ← hp]; rfl⟩
  | byte c =>
    obtain ⟨rfl, rfl⟩ : c = b ∧ s.input = l := by simpa [State.pending, hp] using h
    exact ⟨inItem_of_byte hp, inRead_of_pushedBack (by simp [hp])⟩
  | eos => exact absurd hp hne

theorem inRead_of_pending_nil {s : State} (hne : s.pushback ≠ .eos) (h : s.pending = []) :
    s.inItem = .eos ∧ s.inRead = { s with input := [], pushback := .empty } := by
  cases hp : s.pushback with
  | empty =>
    have hi : s.input = [] := by simpa [State.pending, hp] using h
    exact ⟨inItem_of_end hp hi, by rw [inRead_of_empty hp, hi, ← hp]; rfl⟩
  | byte c => simp [State.pending, hp] at h
  | eos => exact absurd hp hne

/-- R380: an item pushed back is the next one read. -/
theorem inItem_pushBack (s : State) (t : InItem) : (s.pushBack t).inItem = t := by
  cases t <;> rfl

/-- Reading an item again that was read and pushed back leaves what its first read left. -/
theorem inRead_pushBack_inRead (s : State) (t : InItem) : (s.inRead.pushBack t).inRead = s.inRead := by
  have hempty : { s.inRead with pushback := .empty } = s.inRead := by rw [← s.inRead_pushback]
  cases t with
  | byte b => exact hempty
  | eos => exact hempty

/-! ## READ_BYTE -/

theorem wrapW_itemCode {s : State} (hn : 9 ≤ s.params.wordBits) (t : InItem) : s.wrapW (itemCode t) = itemCode t := by
  refine wrap_of_inRange (by omega) ?_
  cases t with
  | byte b =>
    have := b.isLt
    exact inRange_small hn (show -1 ≤ (b.toNat : Int) by omega) (show (b.toNat : Int) ≤ 255 by omega)
  | eos => exact inRange_small hn (by decide) (by decide)

theorem inRead_roomAfter (s : State) (k : Nat) : s.inRead.roomAfter k ↔ s.roomAfter k := by
  simp only [State.roomAfter, State.inRead_params, State.inRead_stack]

theorem exec_readByte_room {s : State} (hn : 9 ≤ s.params.wordBits) (h : s.roomAfter 0) :
    exec .readByte s = .next { s.inRead with stack := itemCode s.inItem :: s.stack } := by
  have hexec : exec .readByte s = (push (s.wrapW (itemCode s.inItem)) s.inRead).outcome := rfl
  rw [hexec, wrapW_itemCode hn, push_outcome_room _ ((inRead_roomAfter s 0).2 h), State.inRead_stack]

theorem exec_readByte_full {s : State} (h : ¬ s.roomAfter 0) : exec .readByte s = .next (s.inRead.raised .stackOverflow) :=
  congrArg Flow.outcome (push_full _ (mt (inRead_roomAfter s 0).1 h))

/-- Settles O52, by where the read takes its item from: the slot, its end mark, the stream, the end of the stream. -/
theorem readByteServesPushbackFirst : Obligations.ReadByteServesPushbackFirst := by
  intro s hn
  refine ⟨fun hroom => ?_, fun hfull => ?_⟩
  · rw [exec_readByte_room hn hroom]
    refine ⟨fun b hp => ?_, fun hp => ?_, fun b rest hp hi => ?_, fun hp hi => ?_⟩
    · rw [inItem_of_byte hp, inRead_of_pushedBack (by simp [hp])]
      rfl
    · rw [inItem_of_eos hp, inRead_of_pushedBack (by simp [hp])]
      rfl
    · rw [inItem_of_stream hp hi, inRead_of_empty hp, hi]
      rfl
    · rw [inItem_of_end hp hi, inRead_of_empty hp, hi, List.tail_nil, ← hi]
      rfl
  · rw [exec_readByte_full hfull]
    exact ⟨fun hp => by rw [inRead_of_pushedBack hp]; rfl, fun hp => by rw [inRead_of_empty hp]; rfl⟩

/-! ## WRITE_BYTE and WRITE_NL -/

/-- R383: the byte is the residue modulo 256. -/
theorem toNat_fmod_byte (v : Int) : ((BitVec.ofNat 8 (fmod v 256).toNat).toNat : Int) = v % 256 := by
  rw [fmod, Int.fmod_eq_emod_of_nonneg _ (by omega), BitVec.toNat_ofNat]
  omega

/-- Settles O53: the byte of the popped word, and the line feed. -/
theorem byteOutputOpcodes : Obligations.ByteOutputOpcodes := by
  intro s
  refine ⟨⟨_, rfl, ?_⟩, rfl⟩
  rw [toNat_fmod_byte, top_eq_operand]

/-! ## Decimal texts -/

theorem outAll_eq (l : List Byte) (s : State) : State.outAll l s = { s with output := s.output ++ l } := by
  induction l generalizing s with
  | nil => rw [List.append_nil, State.outAll]
  | cons b l ih =>
    rw [State.outAll, ih, State.outWrite_output, List.append_assoc, List.singleton_append]
    rfl

/-- The ASCII byte of a decimal digit. -/
def digitByte (d : Nat) : Byte := BitVec.ofNat 8 (0x30 + d)

theorem digitByte_toNat {d : Nat} (hd : d < 10) : (digitByte d).toNat = 0x30 + d := by
  rw [digitByte, BitVec.toNat_ofNat, Nat.mod_eq_of_lt (by omega)]

theorem ofNat_digitChar {d : Nat} (hd : d < 10) : BitVec.ofNat 8 d.digitChar.toNat = digitByte d := by
  revert d
  decide

theorem digitBytes_of_lt {k : Nat} (h : k < 10) : digitBytes k = [digitByte k] := by
  rw [digitBytes, Nat.toDigits_of_lt_base h, List.map_singleton, ofNat_digitChar h]

theorem digitBytes_of_ge {k : Nat} (h : 10 ≤ k) : digitBytes k = digitBytes (k / 10) ++ [digitByte (k % 10)] := by
  rw [digitBytes, Nat.toDigits_eq_if (by omega), if_neg (by omega), List.map_append, List.map_singleton,
    ofNat_digitChar (Nat.mod_lt k (by omega)), digitBytes]

theorem digitsNumber_append_singleton (l : List Byte) (b : Byte) :
    digitsNumber (l ++ [b]) = digitsNumber l * 10 + (b.toNat - 0x30) := by
  rw [digitsNumber, List.foldl_append]
  rfl

/-- The text of a number (R387): ASCII digits, at least one, the first one 0 in the text of 0 only. -/
structure IsDecimalText (k : Nat) (l : List Byte) : Prop where
  nonempty : l ≠ []
  digits : ∀ b ∈ l, isAsciiDigit b
  noLeadingZero : l.head? = some 0x30#8 → l = [0x30#8]
  number : digitsNumber l = k

theorem isAsciiDigit_digitByte {d : Nat} (hd : d < 10) : isAsciiDigit (digitByte d) := by
  rw [isAsciiDigit, digitByte_toNat hd]
  omega

theorem isDecimalText_digit {d : Nat} (hd : d < 10) : IsDecimalText d [digitByte d] where
  nonempty := by simp
  digits := by simpa using isAsciiDigit_digitByte hd
  noLeadingZero := by simp
  number := by
    rw [← List.nil_append [digitByte d], digitsNumber_append_singleton, digitByte_toNat hd, digitsNumber, List.foldl_nil]
    omega

/-- A leading 0 of the longer text would be the whole of the shorter one, whose number is not 0. -/
theorem IsDecimalText.append_digit {k d : Nat} {l : List Byte} (h : IsDecimalText k l) (hk : 0 < k) (hd : d < 10) :
    IsDecimalText (k * 10 + d) (l ++ [digitByte d]) where
  nonempty := by simp
  digits := by simpa [or_imp, forall_and] using ⟨h.digits, isAsciiDigit_digitByte hd⟩
  noLeadingZero hzero := by
    rw [List.head?_append_of_ne_nil _ h.nonempty] at hzero
    have hnumber := h.number
    rw [h.noLeadingZero hzero] at hnumber
    exact absurd hnumber hk.ne
  number := by
    rw [digitsNumber_append_singleton, h.number, digitByte_toNat hd]
    omega

theorem digitBytes_isDecimalText (k : Nat) : IsDecimalText k (digitBytes k) := by
  induction k using Nat.strong_induction_on with
  | _ k ih =>
    by_cases hk : k < 10
    · rw [digitBytes_of_lt hk]
      exact isDecimalText_digit hk
    · have htenth := ih (k / 10) (by omega)
      rw [digitBytes_of_ge (by omega)]
      simpa only [Nat.div_add_mod'] using htenth.append_digit (by omega) (Nat.mod_lt k (by omega))

/-! ## PRINT_INT -/

theorem exec_printInt (s : State) :
    exec .printInt s = .next { s with stack := s.stack.tail, output := s.output ++ decimal (s.operand 0) } := by
  have hexec : exec .printInt s = .next (State.outAll (decimal s.top) s.popped) := rfl
  rw [hexec, outAll_eq, top_eq_operand]
  rfl

/-- Settles O55: the digits of the magnitude. -/
theorem printIntWritesDecimal : Obligations.PrintIntWritesDecimal := fun s =>
  have ⟨hne, hdigits, hzero, hnumber⟩ := digitBytes_isDecimalText (s.operand 0).natAbs
  ⟨_, hne, hdigits, hzero, hnumber, exec_printInt s⟩

/-! ## The digit loop of READ_INT -/

theorem digitValue_of_digit {b : Byte} (h : isAsciiDigit b) : digitValue b = some (b.toNat - 0x30) := if_pos h

theorem digitValue_of_other {b : Byte} (h : ¬ isAsciiDigit b) : digitValue b = none := if_neg h

/-- A word extended by a row of digits, as the loop reduces it (R384). -/
def State.extendedBy (s : State) (val : Int) (digits : List Byte) : Int :=
  digits.foldl (fun v b => s.wrapW (v * 10 + (b.toNat - 0x30 : Nat))) val

/-- The state after a number: the byte that ended it is in the slot, or the end of the stream is. -/
def State.afterNumber (rest : List Byte) (s : State) : State :=
  { s with input := rest.tail, pushback := (rest.head?.map Pushback.byte).getD .eos }

theorem readDigits_of_end (k : Nat) (val : Int) {s : State} (h : s.inItem = .eos) :
    readDigits (k + 1) val s = (val, s.inRead.pushBack .eos) := by
  rw [readDigits, h]

theorem readDigits_of_digit (k : Nat) (val : Int) {s : State} {b : Byte} (h : s.inItem = .byte b) (hb : isAsciiDigit b) :
    readDigits (k + 1) val s = readDigits k (s.wrapW (val * 10 + (b.toNat - 0x30 : Nat))) s.inRead := by
  simp only [readDigits, h, digitValue_of_digit hb]

theorem readDigits_of_other (k : Nat) (val : Int) {s : State} {b : Byte} (h : s.inItem = .byte b) (hb : ¬ isAsciiDigit b) :
    readDigits (k + 1) val s = (val, s.inRead.pushBack (.byte b)) := by
  simp only [readDigits, h, digitValue_of_other hb]

/-- The rounds that are left after the digits end the loop at the rest. -/
theorem readDigits_of_pending {digits rest : List Byte} (hdigits : ∀ b ∈ digits, isAsciiDigit b)
    (hrest : ∀ b, rest.head? = some b → ¬ isAsciiDigit b) {k : Nat} (hk : digits.length < k) (val : Int) {s : State}
    (hne : s.pushback ≠ .eos) (h : s.pending = digits ++ rest) :
    readDigits k val s = (s.extendedBy val digits, s.afterNumber rest) := by
  obtain ⟨k, rfl⟩ := Nat.exists_eq_succ_of_ne_zero (Nat.ne_zero_of_lt hk)
  induction digits generalizing k val s with
  | nil =>
    cases rest with
    | nil =>
      obtain ⟨hitem, hread⟩ := inRead_of_pending_nil hne h
      rw [readDigits_of_end k val hitem, hread]
      rfl
    | cons b rest =>
      obtain ⟨hitem, hread⟩ := inRead_of_pending_cons hne h
      rw [readDigits_of_other k val hitem (hrest b rfl), hread]
      rfl
  | cons b digits ih =>
    obtain ⟨hb, hdigits⟩ := List.forall_mem_cons.1 hdigits
    obtain ⟨hitem, hread⟩ := inRead_of_pending_cons hne h
    obtain ⟨k, rfl⟩ := Nat.exists_eq_succ_of_ne_zero (n := k) (by rw [List.length_cons] at hk; omega)
    rw [readDigits_of_digit _ val hitem hb, hread]
    exact ih hdigits _ (s := { s with input := digits ++ rest, pushback := .empty }) (by simp) rfl k (by simpa using hk)

/-- Reading on from an item pushed back is reading on from before it. -/
theorem readDigits_pushBack_inRead (k : Nat) (val : Int) (s : State) :
    readDigits (k + 1) val (s.inRead.pushBack s.inItem) = readDigits (k + 1) val s := by
  have hword (v : Int) : (s.inRead.pushBack s.inItem).wrapW v = s.wrapW v := by
    rw [State.wrapW, State.pushBack_params, State.inRead_params, State.wrapW]
  simp only [readDigits, inItem_pushBack, inRead_pushBack_inRead, hword]

theorem wrapW_modEq {s : State} (hn : 0 < s.params.wordBits) (z : Int) : s.wrapW z ≡ z [ZMOD 2 ^ s.params.wordBits] :=
  have ⟨_, hdvd⟩ := isWordOf_wrap hn z
  (Int.modEq_iff_dvd.2 hdvd).symm

/-- The reductions of the loop do not change the residue. -/
theorem extendedBy_modEq {s : State} (hn : 0 < s.params.wordBits) (digits : List Byte) {val : Int} {m : Nat}
    (h : val ≡ m [ZMOD 2 ^ s.params.wordBits]) :
    s.extendedBy val digits ≡ (digits.foldl (fun n b => n * 10 + (b.toNat - 0x30)) m : Nat) [ZMOD 2 ^ s.params.wordBits] := by
  induction digits generalizing val m with
  | nil => exact h
  | cons b digits ih =>
    refine ih ((wrapW_modEq hn _).trans ?_)
    rw [Nat.cast_add, Nat.cast_mul]
    exact (h.mul_right _).add_right _

/-! ## READ_INT -/

/-- The number that READ_INT reads, before the last reduction, and the state it reads it to. -/
def State.readNumber (s : State) : Int × State :=
  ((readSign s).1 * (readDigits (readIntRounds (readSign s).2) 0 (readSign s).2).1,
    (readDigits (readIntRounds (readSign s).2) 0 (readSign s).2).2)

theorem exec_readInt (s : State) : exec .readInt s = (push (s.wrapW s.readNumber.1) s.readNumber.2).outcome := rfl

/-- R384, R434: the push comes after all of the reading. -/
theorem exec_readInt_of_readNumber {s : State} {z : Int} {i : List Byte} {p : Pushback}
    (h : s.readNumber = (z, { s with input := i, pushback := p })) :
    (s.roomAfter 0 → exec .readInt s = .next { s with input := i, pushback := p, stack := s.wrapW z :: s.stack }) ∧
    (¬ s.roomAfter 0 → exec .readInt s = .next { s with
      input := i
      pushback := p
      faultCode := .stackOverflow
      runState := .faulted }) := by
  rw [exec_readInt, h]
  exact ⟨fun hroom => push_outcome_room (s := { s with input := i, pushback := p }) _ hroom,
    fun hfull => congrArg Flow.outcome (push_full (s := { s with input := i, pushback := p }) _ hfull)⟩

theorem readSign_frame (s : State) : ∃ i p, (readSign s).2 = { s with input := i, pushback := p } := by
  have hread : ∃ i p, s.inRead = { s with input := i, pushback := p } := by
    by_cases hp : s.pushback = .empty
    · exact ⟨_, s.pushback, inRead_of_empty hp⟩
    · exact ⟨s.input, _, inRead_of_pushedBack hp⟩
  obtain ⟨i, p, hread⟩ := hread
  unfold readSign
  split_ifs
  · exact ⟨i, p, hread⟩
  · exact ⟨i, p, hread⟩
  · rw [hread]
    cases s.inItem with
    | byte b => exact ⟨i, .byte b, rfl⟩
    | eos => exact ⟨i, .eos, rfl⟩

theorem readNumber_frame (s : State) : ∃ z i p, s.readNumber = (z, { s with input := i, pushback := p }) := by
  obtain ⟨i, p, hsign⟩ := readSign_frame s
  obtain ⟨i', p', hdigits⟩ := readDigits_frame (readIntRounds (readSign s).2) 0 (readSign s).2
  refine ⟨_, i', p', Prod.ext rfl ?_⟩
  rw [State.readNumber, hdigits, hsign]

theorem readSign_of_plus {s : State} (h : s.inItem = .byte 0x2B#8) : readSign s = (1, s.inRead) := if_pos h

theorem readSign_of_minus {s : State} (h : s.inItem = .byte 0x2D#8) : readSign s = (-1, s.inRead) := by
  rw [readSign, h]
  rfl

theorem readSign_of_none {s : State} (hplus : s.inItem ≠ .byte 0x2B#8) (hminus : s.inItem ≠ .byte 0x2D#8) :
    readSign s = (1, s.inRead.pushBack s.inItem) := by
  rw [readSign, if_neg hplus, if_neg hminus]

/-- A pushed-back end is read, ends the number before its first digit, and is pushed back again. -/
theorem readNumber_of_eos {s : State} (h : s.pushback = .eos) : s.readNumber = (0, s) := by
  have hitem := inItem_of_eos h
  have hback : s.inRead.pushBack .eos = s := by
    rw [inRead_of_pushedBack (by simp [h]), State.pushBack, ← h]
  have hsign : readSign s = (1, s) := by
    rw [readSign_of_none (by simp [hitem]) (by simp [hitem]), hitem, hback]
  rw [State.readNumber, hsign, readIntRounds, readDigits_of_end _ _ hitem, hback, mul_zero]

theorem readNumber_of_sign {s : State} {sign : Int} {digits rest : List Byte}
    (hsign : readSign s = (sign, { s with input := digits ++ rest, pushback := .empty }))
    (hdigits : ∀ b ∈ digits, isAsciiDigit b) (hrest : ∀ b, rest.head? = some b → ¬ isAsciiDigit b) :
    s.readNumber = (sign * s.extendedBy 0 digits, s.afterNumber rest) := by
  have hloop := readDigits_of_pending (s := { s with input := digits ++ rest, pushback := .empty }) hdigits hrest
    (k := readIntRounds { s with input := digits ++ rest, pushback := .empty })
    (by simp only [readIntRounds, List.length_append]; omega) 0 (by simp) rfl
  rw [State.readNumber, hsign, hloop]
  rfl

theorem pending_length_le {s : State} (hne : s.pushback ≠ .eos) : s.pending.length ≤ s.inRead.input.length + 1 := by
  cases h : s.pending with
  | nil => exact Nat.zero_le _
  | cons b l => rw [(inRead_of_pending_cons hne h).2, List.length_cons]

/-- Without a sign the first item is pushed back, and the loop starts with it. -/
theorem readNumber_of_unsigned {s : State} {digits rest : List Byte} (hne : s.pushback ≠ .eos) (h : s.pending = digits ++ rest)
    (hplus : s.inItem ≠ .byte 0x2B#8) (hminus : s.inItem ≠ .byte 0x2D#8)
    (hdigits : ∀ b ∈ digits, isAsciiDigit b) (hrest : ∀ b, rest.head? = some b → ¬ isAsciiDigit b) :
    s.readNumber = (1 * s.extendedBy 0 digits, s.afterNumber rest) := by
  have hrounds : digits.length < s.inRead.input.length + 2 := by
    have hlen := pending_length_le hne
    rw [h, List.length_append] at hlen
    omega
  rw [State.readNumber, readSign_of_none hplus hminus, readIntRounds, State.pushBack_input, readDigits_pushBack_inRead,
    readDigits_of_pending hdigits hrest hrounds 0 hne h]

theorem pending_head_of_inItem {s : State} {b : Byte} (hne : s.pushback ≠ .eos) (h : s.inItem = .byte b) :
    s.pending.head? = some b := by
  cases hp : s.pending with
  | nil =>
    rw [(inRead_of_pending_nil hne hp).1] at h
    cases h
  | cons c l =>
    rw [(inRead_of_pending_cons hne hp).1] at h
    cases h
    rfl

theorem not_sign_of_digit {b : Byte} (h : isAsciiDigit b) : b ≠ 0x2B#8 ∧ b ≠ 0x2D#8 := by
  constructor <;> rintro rfl <;> exact absurd h (by unfold isAsciiDigit; decide)

/-- R384 on the pending bytes: the signed word that the digits extend 0 to, and the state after them. -/
theorem readNumber_of_pending {s : State} {sign digits rest : List Byte} (hne : s.pushback ≠ .eos)
    (h : s.pending = sign ++ digits ++ rest) (hsign : sign = [] ∨ sign = [0x2B#8] ∨ sign = [0x2D#8])
    (hnosign : sign = [] → digits = [] → ∀ b, rest.head? = some b → b ≠ 0x2B#8 ∧ b ≠ 0x2D#8)
    (hdigits : ∀ b ∈ digits, isAsciiDigit b) (hrest : ∀ b, rest.head? = some b → ¬ isAsciiDigit b) :
    s.readNumber = ((if sign = [0x2D#8] then -1 else 1) * s.extendedBy 0 digits, s.afterNumber rest) := by
  rcases hsign with rfl | rfl | rfl
  · have hother {b : Byte} (hitem : s.inItem = .byte b) : b ≠ 0x2B#8 ∧ b ≠ 0x2D#8 := by
      have hhead := pending_head_of_inItem hne hitem
      rw [h, List.nil_append] at hhead
      cases digits with
      | nil => exact hnosign rfl rfl b hhead
      | cons d digits =>
        cases hhead
        exact not_sign_of_digit (hdigits b List.mem_cons_self)
    exact readNumber_of_unsigned hne h (fun hitem => (hother hitem).1 rfl) (fun hitem => (hother hitem).2 rfl) hdigits hrest
  · obtain ⟨hitem, hread⟩ := inRead_of_pending_cons hne h
    exact readNumber_of_sign ((readSign_of_plus hitem).trans (congrArg _ hread)) hdigits hrest
  · obtain ⟨hitem, hread⟩ := inRead_of_pending_cons hne h
    exact readNumber_of_sign ((readSign_of_minus hitem).trans (congrArg _ hread)) hdigits hrest

theorem isWordOf_wrapW {s : State} (hn : 0 < s.params.wordBits) {z y : Int} (h : z ≡ y [ZMOD 2 ^ s.params.wordBits]) :
    IsWordOf s.params.wordBits y (s.wrapW z) :=
  ⟨(isWordOf_wrap hn z).1, Int.modEq_iff_dvd.1 ((wrapW_modEq hn z).trans h).symm⟩

/-- The word pushed is the signed number of the digits. -/
theorem isWordOf_signed {s : State} (hn : 0 < s.params.wordBits) (sign digits : List Byte) :
    IsWordOf s.params.wordBits (if sign = [0x2D#8] then -(digitsNumber digits : Int) else digitsNumber digits)
      (s.wrapW ((if sign = [0x2D#8] then -1 else 1) * s.extendedBy 0 digits)) := by
  have hdigits : s.extendedBy 0 digits ≡ digitsNumber digits [ZMOD 2 ^ s.params.wordBits] := extendedBy_modEq hn digits rfl
  refine isWordOf_wrapW hn ?_
  split_ifs
  · rw [neg_one_mul]
    exact hdigits.neg
  · rw [one_mul]
    exact hdigits

/-- Settles O54, from the number that is read: for every input, for a pushed-back end, and for a sign, digits and a rest. -/
theorem readIntParsesSignAndDigits : Obligations.ReadIntParsesSignAndDigits := by
  intro s hn
  refine ⟨?_, fun heos => ?_, fun sign digits rest hne h hsign hnosign hdigits hrest => ?_⟩
  · obtain ⟨z, i, p, hread⟩ := readNumber_frame s
    exact ⟨s.wrapW z, i, p, exec_readInt_of_readNumber hread⟩
  · have hzero : s.wrapW 0 = 0 := Int.zero_bmod
    have hread := exec_readInt_of_readNumber (i := s.input) (p := s.pushback) (readNumber_of_eos heos)
    rwa [hzero] at hread
  · obtain ⟨hroom, hfull⟩ := exec_readInt_of_readNumber (readNumber_of_pending hne h hsign hnosign hdigits hrest)
    exact ⟨fun h => ⟨_, hroom h, isWordOf_signed hn sign digits⟩, hfull⟩

/-- R387: a decimal text is a sign and the digits of the magnitude, and stands for the number. -/
theorem decimal_eq (v : Int) : decimal v = (if v < 0 then [0x2D#8] else []) ++ digitBytes v.natAbs := by
  rw [decimal]
  split_ifs <;> rfl

theorem signed_natAbs (v : Int) :
    (if (if v < 0 then [0x2D#8] else []) = [0x2D#8] then -(v.natAbs : Int) else v.natAbs) = v := by
  by_cases hneg : v < 0
  · rw [if_pos hneg, if_pos rfl]
    omega
  · rw [if_neg hneg, if_neg (by simp)]
    omega

/-- A decimal text is a sign, digits and an empty rest; its number is the word again, which is in range. -/
theorem exec_readInt_of_decimal {s : State} {v : Int} (hn : 0 < s.params.wordBits) (hroom : s.roomAfter 0)
    (hv : InRange s.params.wordBits v) :
    exec .readInt { s with input := decimal v, pushback := .empty } =
      .next { s with input := [], pushback := .eos, stack := v :: s.stack } := by
  obtain ⟨hne, hdigits, -, hnumber⟩ := digitBytes_isDecimalText v.natAbs
  obtain ⟨-, -, hread⟩ := readIntParsesSignAndDigits { s with input := decimal v, pushback := .empty } hn
  obtain ⟨hread, -⟩ := hread (if v < 0 then [0x2D#8] else []) (digitBytes v.natAbs) [] (by simp)
    ((decimal_eq v).trans (List.append_nil _).symm) (by split_ifs <;> simp) (fun _ hnil => absurd hnil hne) hdigits (by simp)
  obtain ⟨w, hexec, hw⟩ := hread hroom
  rw [hnumber, signed_natAbs, isWordOf_iff_eq_wrap hn] at hw
  rw [hexec, hw.trans (wrap_of_inRange hn hv)]
  rfl

/-- Settles O56: what PRINT_INT appended is the decimal text of the word. -/
theorem readIntInvertsPrintInt : Obligations.ReadIntInvertsPrintInt := by
  intro s t text hn hroom hrange hprint htext
  rw [exec_printInt] at hprint
  obtain rfl := Host.Outcome.next.inj hprint
  obtain rfl : decimal (s.operand 0) = text := List.append_cancel_left htext
  exact exec_readInt_of_decimal (s := { s with stack := s.stack.tail, output := s.output ++ decimal (s.operand 0) }) hn
    ((popped_roomAfter s 0).2 hroom) hrange

/-! ## Miscellaneous (49_misc.md R410 to R413) -/

theorem exec_debug_of_level {s : State} (h : 1 ≤ s.debugLevel.toNat) : exec .debug s = .next (s.strobe .request) :=
  congrArg Host.Outcome.next (if_pos h)

theorem exec_debug_of_off {s : State} (h : s.debugLevel.toNat = 0) : exec .debug s = .next s :=
  congrArg Host.Outcome.next (if_neg (by omega))

/-- Settles O57, DEBUG by its level. -/
theorem miscellaneousOpcodes : Obligations.MiscellaneousOpcodes := fun s =>
  ⟨rfl, rfl, exec_terminate s, exec_debug_of_off, exec_debug_of_level⟩

end Sys2Proof.Machine
end

section
/-! PROOF. The loader and the launch (70_reset_and_hazards.md R470 to R476): the lines of a text, the cells of its lines in row-major
order, and the reset state that an allowed launch leaves. -/

namespace Sys2Proof.Machine

/-! ## The lines of a text -/

theorem splitLines_of_notMem {l : List Byte} (h : lineFeed ∉ l) : splitLines l = [l] := by
  induction l with
  | nil => rfl
  | cons b l ih =>
    obtain ⟨hb, hl⟩ := not_or.1 (mt List.mem_cons.2 h)
    rw [splitLines, if_neg (Ne.symm hb), ih hl]

/-- R474: the first line feed ends the first line. -/
theorem splitLines_line_append {l : List Byte} (h : lineFeed ∉ l) (rest : List Byte) :
    splitLines (l ++ lineFeed :: rest) = l :: splitLines rest := by
  induction l with
  | nil => rw [List.nil_append, splitLines, if_pos rfl]
  | cons b l ih =>
    obtain ⟨hb, hl⟩ := not_or.1 (mt List.mem_cons.2 h)
    rw [List.cons_append, splitLines, if_neg (Ne.symm hb), ih hl]

/-- A text of lines that each end with a line feed. -/
def joinLines (lines : List (List Byte)) : List Byte := lines.flatMap fun l => l ++ [lineFeed]

theorem joinLines_cons (l : List Byte) (lines : List (List Byte)) (last : List Byte) :
    joinLines (l :: lines) ++ last = l ++ lineFeed :: (joinLines lines ++ last) := by
  simp [joinLines]

theorem splitLines_joinLines {lines : List (List Byte)} {last : List Byte} (h : ∀ l ∈ lines, lineFeed ∉ l) (hlast : lineFeed ∉ last) :
    splitLines (joinLines lines ++ last) = lines ++ [last] := by
  induction lines with
  | nil => exact splitLines_of_notMem hlast
  | cons l lines ih =>
    obtain ⟨hl, hlines⟩ := List.forall_mem_cons.1 h
    rw [joinLines_cons, splitLines_line_append hl, ih hlines, List.cons_append]

/-- A last line without a line feed is a line of its own. -/
theorem textLines_of_rest {lines : List (List Byte)} {last : List Byte} (h : ∀ l ∈ lines, lineFeed ∉ l) (hlast : lineFeed ∉ last)
    (hne : last ≠ []) : textLines (joinLines lines ++ last) = lines ++ [last] := by
  have hend : (joinLines lines ++ last).getLast? ≠ some lineFeed := by
    rw [List.getLast?_append_of_ne_nil _ hne]
    exact fun hf => hlast (List.mem_of_getLast? hf)
  rw [textLines, if_neg (List.append_ne_nil_of_right_ne_nil _ hne), if_neg hend, splitLines_joinLines h hlast]

/-- Behind the final line feed the split leaves an empty element, which is no line. -/
theorem textLines_joinLines {lines : List (List Byte)} (h : ∀ l ∈ lines, lineFeed ∉ l) : textLines (joinLines lines) = lines := by
  rcases lines.eq_nil_or_concat' with rfl | ⟨init, l, rfl⟩
  · rfl
  · have hend : joinLines (init ++ [l]) = joinLines init ++ l ++ [lineFeed] := by simp [joinLines]
    have hsplit := splitLines_joinLines h List.not_mem_nil
    rw [List.append_nil] at hsplit
    rw [textLines, hsplit, if_neg (by simp [hend]), if_pos (by simp [hend]), List.dropLast_concat]

/-- Settles O58: the text that ends with a line feed, and the one that goes on behind it. -/
theorem loaderSplitsAtLineFeeds : Obligations.LoaderSplitsAtLineFeeds := fun _ _ h hlast =>
  ⟨textLines_joinLines h, textLines_of_rest h hlast⟩

/-! ## The size of the grid -/

theorem length_le_maxLength {lines : List (List Byte)} {l : List Byte} (h : l ∈ lines) : l.length ≤ maxLength lines := by
  induction lines with
  | nil => cases h
  | cons k lines ih =>
    rw [maxLength]
    rcases List.mem_cons.1 h with rfl | h
    · exact le_max_left _ _
    · exact (ih h).trans (le_max_right _ _)

theorem maxLength_attained (lines : List (List Byte)) : maxLength lines = 0 ∨ ∃ l ∈ lines, l.length = maxLength lines := by
  induction lines with
  | nil => exact .inl rfl
  | cons k lines ih =>
    rw [maxLength]
    rcases le_total k.length (maxLength lines) with hle | hle
    · rw [max_eq_right hle]
      exact ih.imp_right fun ⟨l, hl, he⟩ => ⟨l, List.mem_cons_of_mem _ hl, he⟩
    · rw [max_eq_left hle]
      exact .inr ⟨k, List.mem_cons_self, rfl⟩

/-! ## The cells -/

theorem memRead_append_left {c : Coord} {m₁ m₂ : Memory} (h : ∀ e ∈ m₂, e.1 ≠ c) : memRead c (m₁ ++ m₂) = memRead c m₁ := by
  induction m₁ with
  | nil => exact memRead_eq_unlisted h
  | cons e m₁ ih => rw [List.cons_append, memRead, memRead, ih]

theorem memRead_append_right {c : Coord} {m₁ m₂ : Memory} (h : ∀ e ∈ m₁, e.1 ≠ c) : memRead c (m₁ ++ m₂) = memRead c m₂ := by
  induction m₁ with
  | nil => rfl
  | cons e m₁ ih =>
    obtain ⟨he, hrest⟩ := List.forall_mem_cons.1 h
    rw [List.cons_append, memRead, if_neg (Ne.symm he), ih hrest]

theorem memSorted_append {m₁ m₂ : Memory} (h₁ : memSorted m₁ = true) (h₂ : memSorted m₂ = true)
    (h : ∀ e ∈ m₁, ∀ f ∈ m₂, coordBefore e.1 f.1) : memSorted (m₁ ++ m₂) = true := by
  induction m₁ with
  | nil => exact h₂
  | cons e m₁ ih =>
    obtain ⟨hhead, htail⟩ := memSorted_cons.1 h₁
    obtain ⟨he, hrest⟩ := List.forall_mem_cons.1 h
    exact memSorted_cons.2 ⟨fun f hf => (List.mem_append.1 hf).elim (hhead f) (he f), ih htail hrest⟩

/-- A cell that holds a byte other than the padding. -/
def HoldsByte (e : Coord × Int) : Prop := 0 < e.2 ∧ e.2 ≤ 255

/-- The entries of a row, which start at column `x`. -/
structure InRow (y x : Int) (n : Nat) (e : Coord × Int) : Prop where
  row : e.1.y = y
  left : x ≤ e.1.x
  right : e.1.x < x + n
  byte : HoldsByte e

theorem rowCells_cons (y x : Int) (b : Byte) (l : List Byte) :
    rowCells y x (b :: l) =
      if (b.toNat : Int) = unlistedCell then rowCells y (x + 1) l else (⟨x, y⟩, (b.toNat : Int)) :: rowCells y (x + 1) l := rfl

theorem mem_rowCells {y x : Int} {l : List Byte} {e : Coord × Int} (h : e ∈ rowCells y x l) : InRow y x l.length e := by
  induction l generalizing x with
  | nil => cases h
  | cons b l ih =>
    have hrest (h : e ∈ rowCells y (x + 1) l) : InRow y x (b :: l).length e := by
      obtain ⟨hrow, hleft, hright, hbyte⟩ := ih h
      exact ⟨hrow, by omega, by rw [List.length_cons]; omega, hbyte⟩
    rw [rowCells_cons] at h
    split_ifs at h with hb
    · exact hrest h
    · rcases List.mem_cons.1 h with rfl | h
      · have hlt := b.isLt
        rw [unlistedCell] at hb
        exact ⟨rfl, le_rfl, by simp only [List.length_cons]; omega, by unfold HoldsByte; simp only; omega⟩
      · exact hrest h

theorem rowCells_sorted (y x : Int) (l : List Byte) : memSorted (rowCells y x l) = true := by
  induction l generalizing x with
  | nil => rfl
  | cons b l ih =>
    rw [rowCells_cons]
    split_ifs
    · exact ih (x + 1)
    · refine memSorted_cons.2 ⟨fun f hf => .inr ?_, ih (x + 1)⟩
      obtain ⟨hrow, hleft, -⟩ := mem_rowCells hf
      exact ⟨hrow.symm, by simp only; omega⟩

/-- R474: byte `i` of the line, and behind its end the padding. -/
theorem memRead_rowCells (y x : Int) (i : Nat) (l : List Byte) :
    memRead ⟨x + i, y⟩ (rowCells y x l) = (l[i]?.map fun b => (b.toNat : Int)).getD 0 := by
  induction l generalizing x i with
  | nil => rfl
  | cons b l ih =>
    cases i with
    | zero =>
      have hbehind : memRead ⟨x + (0 : Nat), y⟩ (rowCells y (x + 1) l) = unlistedCell := memRead_eq_unlisted fun e he hx => by
        obtain ⟨-, hleft, -⟩ := mem_rowCells he
        rw [hx] at hleft
        simp only at hleft
        omega
      rw [rowCells_cons]
      split_ifs with hb
      · rw [hbehind, ← hb]
        rfl
      · rw [memRead, if_pos (by simp)]
        rfl
    | succ i =>
      have hnext : (⟨x + (i + 1 : Nat), y⟩ : Coord) = ⟨x + 1 + i, y⟩ := by
        rw [Nat.cast_succ, add_assoc, add_comm (i : Int)]
      have hrest : memRead ⟨x + (i + 1 : Nat), y⟩ (rowCells y (x + 1) l) = (l[i]?.map fun b => (b.toNat : Int)).getD 0 :=
        hnext ▸ ih (x + 1) i
      rw [rowCells_cons, List.getElem?_cons_succ]
      split_ifs with hb
      · exact hrest
      · rw [memRead, if_neg (by rw [Coord.mk.injEq]; omega), hrest]

/-- The entries of the lines from row `y` on. -/
structure InRows (y : Int) (lines : List (List Byte)) (e : Coord × Int) : Prop where
  left : 0 ≤ e.1.x
  right : e.1.x < maxLength lines
  top : y ≤ e.1.y
  bottom : e.1.y < y + lines.length
  byte : HoldsByte e

theorem mem_gridCells {y : Int} {lines : List (List Byte)} {e : Coord × Int} (h : e ∈ gridCells y lines) : InRows y lines e := by
  induction lines generalizing y with
  | nil => cases h
  | cons l lines ih =>
    have hfirst : l.length ≤ maxLength (l :: lines) := le_max_left _ _
    have hothers : maxLength lines ≤ maxLength (l :: lines) := le_max_right _ _
    have hlen : (l :: lines).length = lines.length + 1 := List.length_cons
    rcases List.mem_append.1 h with h | h
    · obtain ⟨hrow, hleft, hright, hbyte⟩ := mem_rowCells h
      exact ⟨by omega, by omega, by omega, by omega, hbyte⟩
    · obtain ⟨hleft, hright, htop, hbottom, hbyte⟩ := ih h
      exact ⟨hleft, by omega, by omega, by omega, hbyte⟩

theorem gridCells_sorted (y : Int) (lines : List (List Byte)) : memSorted (gridCells y lines) = true := by
  induction lines generalizing y with
  | nil => rfl
  | cons l lines ih =>
    refine memSorted_append (rowCells_sorted y 0 l) (ih (y + 1)) fun e he f hf => .inl ?_
    have hrow := (mem_rowCells he).row
    have htop := (mem_gridCells hf).top
    omega

theorem memRead_gridCells {lines : List (List Byte)} {i : Nat} {l : List Byte} (h : lines[i]? = some l) (y : Int) (x : Nat) :
    memRead ⟨x, y + i⟩ (gridCells y lines) = (l[x]?.map fun b => (b.toNat : Int)).getD 0 := by
  induction lines generalizing y i with
  | nil => cases h
  | cons k lines ih =>
    cases i with
    | zero =>
      obtain rfl : k = l := Option.some.inj h
      have hrow := memRead_rowCells y 0 x k
      rw [zero_add] at hrow
      rw [gridCells, Nat.cast_zero, add_zero, memRead_append_left, hrow]
      intro e he hc
      have htop := (mem_gridCells he).top
      rw [hc] at htop
      simp only at htop
      omega
    | succ i =>
      have hnext : (⟨x, y + (i + 1 : Nat)⟩ : Coord) = ⟨x, y + 1 + i⟩ := by
        rw [Nat.cast_succ, add_assoc, add_comm (i : Int)]
      rw [gridCells, memRead_append_right, hnext]
      · exact ih h (y + 1)
      · intro e he hc
        have hrow := (mem_rowCells he).row
        rw [hc] at hrow
        simp only at hrow
        omega

/-- Settles O59: a cell of a line lies in the grid, so it reads what the store holds. -/
theorem loadedGridHoldsTheText : Obligations.LoadedGridHoldsTheText := by
  intro l
  refine ⟨rfl, fun row => length_le_maxLength, maxLength_attained _, fun x y row hrow hx => ?_⟩
  have hy : y < (textLines l.text).length := (List.getElem?_eq_some_iff.1 hrow).1
  have hin : (State.resetWith l).InBounds ⟨x, y⟩ := ⟨by simp, by simpa using hx, by simp, Int.ofNat_lt.2 hy⟩
  have hread := memRead_gridCells hrow 0 x
  rw [zero_add] at hread
  rw [State.gridRead, if_pos hin]
  exact hread

/-! ## The reset state of a launch -/

theorem loadText_wf (text : List Byte) : Memory.wf (loadText text).gw (loadText text).gh (loadText text).cells = true := by
  refine Memory.wf_iff.2 ⟨gridCells_sorted 0 _, fun e he => ?_, fun e he => ?_⟩
  · obtain ⟨hpos, -⟩ := (mem_gridCells he).byte
    exact hpos.ne'
  · obtain ⟨hleft, hright, htop, hbottom, -⟩ := mem_gridCells he
    rw [zero_add] at hbottom
    exact ⟨hleft, hright, htop, hbottom⟩

/-- A byte of the text is a word (log entry 2). -/
theorem loadText_words {n : Nat} (hn : 9 ≤ n) {text : List Byte} : ∀ e ∈ (loadText text).cells, InRange n e.2 := fun e he =>
  have ⟨hpos, hbyte⟩ := (mem_gridCells he).byte
  inRange_small hn (by omega) hbyte

theorem Params.initFaces_of_ok {p : Params} (h : p.ok = true) : ∀ v ∈ p.initFaces.toList, InRange p.wordBits v := by
  simp only [Params.ok, Bool.and_eq_true, List.all_eq_true, decide_eq_true_eq] at h
  exact h.2

/-- R54 after reset: the grid is the loader's, the faces are `INIT_FACES`, and nothing is running or pending. -/
theorem resetWith_inv {l : Launch} (h : l.ok = true) : Inv (State.resetWith l) := by
  obtain ⟨hparams, hfits⟩ := Bool.and_eq_true_iff.1 h
  have hbits : 9 ≤ l.params.wordBits := Params.wordBits_of_ok hparams
  have hgrid (hw : 0 < (State.resetWith l).gw) (hh : 0 < (State.resetWith l).gh) : (State.resetWith l).InBounds ⟨0, 0⟩ :=
    ⟨le_rfl, Int.ofNat_lt.2 hw, le_rfl, Int.ofNat_lt.2 hh⟩
  exact
    { params := hparams
      fits := hfits
      gridForm := loadText_wf l.text
      gridWords := loadText_words hbits
      stackWords := by simp [State.resetWith]
      faceWords := Params.initFaces_of_ok hparams
      stackBound := by simp [State.resetWith]
      idxBijection := show identityPerm.toList.Nodup by decide
      iterWord := (inRange_small hbits (v := 1) (by omega) (by omega)).2
      cursor := fun hc => absurd rfl hc
      stringIter := fun _ => rfl
      settled := fun _ => ⟨rfl, rfl, hgrid⟩
      nonempty := by simp [State.resetWith]
      faultCode := by simp [State.resetWith]
      notReserved := by simp [State.resetWith]
      notInvariant := by simp [State.resetWith] }

/-- Settles O2: the reset values stand in the definition of reset. -/
theorem everyLaunchMeetsInvariant : Obligations.EveryLaunchMeetsInvariant := by
  rintro l s rfl
  exact ⟨resetWith_inv, rfl, rfl, rfl, rfl, rfl, rfl, rfl, identityPerm_get, rfl, rfl, rfl, rfl, rfl, rfl, rfl, rfl, rfl, rfl, rfl,
    rfl, rfl, rfl, rfl, rfl⟩

end Sys2Proof.Machine
end
